-- ==== Sys2Proof/Word.lean ====
section
/-! DEFINITION. The word types of the MurmurHash3 engine block (`00_scope.md` R11, `30_encoding.md` R80). Every value of
the block is an unsigned integer of a stated width (R11), so each is a bit vector of that width. -/

namespace Sys2Proof

/-- One byte of the stream (R11, R13). -/
abbrev Byte := BitVec 8

/-- A 32-bit lane or sub-word of Hasher32 and Hasher128x86 (R2). -/
abbrev Word32 := BitVec 32

/-- A 64-bit lane or sub-word of Hasher128x64 (R2), and the width of LEN (R9). -/
abbrev Word64 := BitVec 64

/-- The command word CMD (R80, R82). -/
abbrev Cmd := BitVec 32

/-- The 128-bit operand DATA and the 128-bit response data RDATA (R80). -/
abbrev Data := BitVec 128

end Sys2Proof
end

