-- ==== Sys2Proof/Config.lean ====
section
/-! DEFINITION. What this implementation fixes, and the values the spec leaves unspecified at reset. The mixing constants
are in `Machine/Mixer.lean`. The open parameter P_LATENCY (R10, R278) is not here: the model has no clock and no rule
depends on it (log entry 5). -/

namespace Sys2Proof

/-- The largest NB of a legal WRITE, in bytes (`30_encoding.md` R86, R90). -/
def Config.maxChunk : Nat := 16

/-- What each lane H[j] holds after reset. DESIGN CHOICE (log entry 1): `10_state.md` R41 leaves it unspecified; R272
says that any value is exact because no rule reads it. Unsafe for a statement that names a lane of an UNINIT engine. -/
def Config.resetLane (w : Nat) : BitVec w := 0

/-- What each byte TBUF[i] holds after reset. DESIGN CHOICE (log entry 1): unspecified in `10_state.md` R41; exact by
R272. Unsafe for a statement that names a byte of TBUF at or above TLEN. -/
def Config.resetTailByte : Byte := 0

end Sys2Proof
end

