-- ==== Sys2Proof/Syntax.lean ====
section
/-! DEFINITION. The commands of the block: one constructor per row of the opcode table (`30_encoding.md` R93), with the
operands of R87 and R88 already taken out of the request, and the request itself (R80, R82). -/

namespace Sys2Proof

/-- One request on the command port: the command word and its data operand (R80, R82). -/
structure Request where
  /-- CMD, 32 bits. -/
  cmd : Cmd
  /-- DATA, 128 bits. -/
  data : Data
  deriving DecidableEq, Repr

/-- The thirteen legal commands (R93). A seed is the operand of R88. A chunk is the byte sequence of R87, its length
being NB. NOP, FINISH and STATUS ignore DATA (R89), so they have no operand. -/
inductive Instr where
  /-- `nop` (R153). -/
  | nop
  /-- `init.h32 seed32` (R155). -/
  | initH32 (seed : Word32)
  /-- `init.x86 seed32` (R156). -/
  | initX86 (seed : Word32)
  /-- `init.x64 seed64` (R157). -/
  | initX64 (seed : Word64)
  /-- `write.h32 nb, bytes` (R158). -/
  | writeH32 (chunk : List Byte)
  /-- `write.x86 nb, bytes` (R159). -/
  | writeX86 (chunk : List Byte)
  /-- `write.x64 nb, bytes` (R160). -/
  | writeX64 (chunk : List Byte)
  /-- `finish.h32` (R201). -/
  | finishH32
  /-- `finish.x86` (R202). -/
  | finishX86
  /-- `finish.x64` (R203). -/
  | finishX64
  /-- `status.h32` (R161). -/
  | statusH32
  /-- `status.x86` (R162). -/
  | statusX86
  /-- `status.x64` (R163). -/
  | statusX64
  deriving DecidableEq, Repr

/-- The three variants, in the order of ENG (`00_scope.md` R2): used by the assembler's syntax (R95). -/
inductive Variant where
  /-- Hasher32, ENG 0. -/
  | h32
  /-- Hasher128x86, ENG 1. -/
  | x86
  /-- Hasher128x64, ENG 2. -/
  | x64
  deriving DecidableEq, Repr

end Sys2Proof
end

