-- ==== Sys2Proof/WellFormed.lean ====
section
/-! DEFINITION. When a command is one the 32-bit word can carry: a WRITE has at most 16 bytes (`30_encoding.md` R86, R90);
every other operand is of its width by its type. -/

namespace Sys2Proof

/-- The one bound on operands: NB is at most 16 in a WRITE (R86). -/
def Instr.wellFormed : Instr → Bool
  | .nop => true
  | .initH32 _ => true
  | .initX86 _ => true
  | .initX64 _ => true
  | .writeH32 chunk => decide (chunk.length ≤ Config.maxChunk)
  | .writeX86 chunk => decide (chunk.length ≤ Config.maxChunk)
  | .writeX64 chunk => decide (chunk.length ≤ Config.maxChunk)
  | .finishH32 => true
  | .finishX86 => true
  | .finishX64 => true
  | .statusH32 => true
  | .statusX86 => true
  | .statusX64 => true

end Sys2Proof
end

