-- ==== Sys2Proof/Machine/Operands.lean ====
section
/-! DEFINITION. The fields of a command word (`30_encoding.md` R83), the operand forms taken from DATA (R87, R88), and the
one little-endian byte order of the block (`00_scope.md` R13, `20_memory.md` R63-R65). -/

namespace Sys2Proof.Machine

/-- OP = CMD[3:0] (R83). -/
def opField (cmd : Cmd) : Nat := (cmd.extractLsb' 0 4).toNat

/-- ENG = CMD[5:4] (R83). -/
def engField (cmd : Cmd) : Nat := (cmd.extractLsb' 4 2).toNat

/-- RSV0 = CMD[7:6] (R83). -/
def rsv0Field (cmd : Cmd) : Nat := (cmd.extractLsb' 6 2).toNat

/-- NB = CMD[12:8], read unsigned (R83, R86). -/
def nbField (cmd : Cmd) : Nat := (cmd.extractLsb' 8 5).toNat

/-- RSV1 = CMD[31:13] (R83). -/
def rsv1Field (cmd : Cmd) : Nat := (cmd.extractLsb' 13 19).toNat

/-- The command word with these fields and zero reserved bits (R83, R93). -/
def cmdWord (op eng nb : Nat) : Cmd := BitVec.ofNat 32 (op + 16 * eng + 256 * nb)

/-- `LE(s)` as a number: the sum of s[i] × 2^(8i) (R13). -/
def leNat : List Byte → Nat
  | [] => 0
  | b :: bs => b.toNat + 256 * leNat bs

/-- `LE_W(s)`, byte 0 least significant (R13). On more than W/8 bytes it keeps the low W bits; on fewer, the upper bits
are zero. -/
def leWord (w : Nat) (bytes : List Byte) : BitVec w := BitVec.ofNat w (leNat bytes)

/-- `bytes_LE_W(v)`: the W/8 bytes of v, least significant first (R13). -/
def bytesLE (v : BitVec w) : List Byte := (List.range (w / 8)).map fun i => v.extractLsb' (8 * i) 8

/-- The chunk of a WRITE: byte j is DATA[8j+7:8j] for j < nb; the bits above are ignored (R87, R65). -/
def chunkOf (data : Data) (nb : Nat) : List Byte := (List.range nb).map fun j => data.extractLsb' (8 * j) 8

/-- Bytes on the byte lanes of a 128-bit operand, byte j in bits [8j+7:8j], zeros above (R65, R92, R95). -/
def packBytes (bytes : List Byte) : Data := leWord 128 bytes

/-- The 32-bit seed of ENG 0 and 1 (R88). -/
def seed32 (data : Data) : Word32 := data.extractLsb' 0 32

/-- The 64-bit seed of ENG 2 (R8, R88). -/
def seed64 (data : Data) : Word64 := data.extractLsb' 0 64

/-- A seed on DATA, zero-extended (R95). -/
def seedData (seed : BitVec w) : Data := seed.setWidth 128

end Sys2Proof.Machine
end

