-- ==== Sys2Proof/Decode.lean ====
section
/-! DEFINITION. Decoding a request (`30_encoding.md` R83-R94): total on every command word, illegal words rejected by the
name of their cause (R94); and the encoder, the assembler's encoding of a command (R93, R95). -/

namespace Sys2Proof

open Machine

/-- Why a word is illegal: the six causes of R94. The block reports only the status ILLEGAL (R241); the cause is the
model's own name for it. -/
inductive IllegalCause where
  /-- A 1 bit in RSV0 or RSV1. -/
  | reservedBits
  /-- OP in 5..15. -/
  | reservedOp
  /-- ENG = 3 in a command other than NOP. -/
  | reservedEng
  /-- NB > 16 in a WRITE. -/
  | chunkTooLong
  /-- NB ≠ 0 outside a WRITE. -/
  | strayNb
  /-- ENG ≠ 0 in a NOP. -/
  | nopEng
  deriving DecidableEq, Repr

/-- What a request decodes to: exactly one row, or ILLEGAL (R93). -/
inductive Decoded where
  /-- A legal command. -/
  | instr (i : Instr)
  /-- An illegal word, with a cause that applies to it. -/
  | illegal (why : IllegalCause)
  deriving DecidableEq, Repr

/-- A row whose NB must be 0 (R86, R94). -/
def withoutNb (nb : Nat) (i : Instr) : Decoded := if nb = 0 then .instr i else .illegal .strayNb

/-- A WRITE row: NB at most 16, and the chunk of R87 as its operand. -/
def withChunk (nb : Nat) (data : Data) (row : List Byte → Instr) : Decoded :=
  if nb ≤ Config.maxChunk then .instr (row (chunkOf data nb)) else .illegal .chunkTooLong

/-- The row selected by OP and ENG (R93), once the reserved bits are known to be zero. -/
def decodeRow (op eng nb : Nat) (data : Data) : Decoded :=
  match op, eng with
  | 0, 0 => withoutNb nb .nop
  | 0, _ => .illegal .nopEng
  | 1, 0 => withoutNb nb (.initH32 (seed32 data))
  | 1, 1 => withoutNb nb (.initX86 (seed32 data))
  | 1, 2 => withoutNb nb (.initX64 (seed64 data))
  | 1, _ => .illegal .reservedEng
  | 2, 0 => withChunk nb data .writeH32
  | 2, 1 => withChunk nb data .writeX86
  | 2, 2 => withChunk nb data .writeX64
  | 2, _ => .illegal .reservedEng
  | 3, 0 => withoutNb nb .finishH32
  | 3, 1 => withoutNb nb .finishX86
  | 3, 2 => withoutNb nb .finishX64
  | 3, _ => .illegal .reservedEng
  | 4, 0 => withoutNb nb .statusH32
  | 4, 1 => withoutNb nb .statusX86
  | 4, 2 => withoutNb nb .statusX64
  | 4, _ => .illegal .reservedEng
  | _, _ => .illegal .reservedOp

/-- The decoder: reserved bits first, then the row by OP and ENG (R83-R94). Legality reads CMD alone; DATA only supplies
operands (R90). -/
def decode (r : Request) : Decoded :=
  if rsv1Field r.cmd = 0 ∧ rsv0Field r.cmd = 0 then
    decodeRow (opField r.cmd) (engField r.cmd) (nbField r.cmd) r.data
  else .illegal .reservedBits

/-- The request of a command as an assembler encodes it (R93, R95): the seed zero-extended, the chunk on the byte lanes
with zeros above, DATA = 0 for every other command. -/
def encode : Instr → Request
  | .nop => ⟨cmdWord 0 0 0, 0⟩
  | .initH32 seed => ⟨cmdWord 1 0 0, seedData seed⟩
  | .initX86 seed => ⟨cmdWord 1 1 0, seedData seed⟩
  | .initX64 seed => ⟨cmdWord 1 2 0, seedData seed⟩
  | .writeH32 chunk => ⟨cmdWord 2 0 chunk.length, packBytes chunk⟩
  | .writeX86 chunk => ⟨cmdWord 2 1 chunk.length, packBytes chunk⟩
  | .writeX64 chunk => ⟨cmdWord 2 2 chunk.length, packBytes chunk⟩
  | .finishH32 => ⟨cmdWord 3 0 0, 0⟩
  | .finishX86 => ⟨cmdWord 3 1 0, 0⟩
  | .finishX64 => ⟨cmdWord 3 2 0, 0⟩
  | .statusH32 => ⟨cmdWord 4 0 0, 0⟩
  | .statusX86 => ⟨cmdWord 4 1 0, 0⟩
  | .statusX64 => ⟨cmdWord 4 2 0, 0⟩

/-- The request whose bits are `w`: CMD is bits 31..0 and DATA, the operand the table gives no bits, is bits 159..32.
Bits at and above `nbits` are zero. -/
def requestOfBits (nbits w : Nat) : Request :=
  ⟨BitVec.ofNat 32 (w % 2 ^ nbits), BitVec.ofNat 128 (w % 2 ^ nbits / 2 ^ 32)⟩

/-- What the decoder reads from an instruction whose bits are `w`; none where it rejects the word. -/
def decodeTableWord (nbits w : Nat) : Option Instr :=
  match decode (requestOfBits nbits w) with
  | .instr i => some i
  | .illegal _ => none

end Sys2Proof
end

