-- ==== Sys2Proof/Machine/State.lean ====
section
/-! DEFINITION. The state of the block: three engine records (`10_state.md` R30-R37), the transaction on the command port
(`30_encoding.md` R80, R81, `70_reset_and_hazards.md` R275), and what the model adds so that one deterministic step can
show the host (log entry 3). There is no register file, program counter, flag, memory, trap or interrupt state (R42-R45,
R60, R246-R248). -/

namespace Sys2Proof.Machine

/-- E[e].STATE (R31). The fourth 2-bit value is never held (R31, R164), so it has no constructor
(`93_implementation_defined.md` U8). -/
inductive Lifecycle where
  /-- 0: no engine has been created since reset. -/
  | uninit
  /-- 1: created by INIT and not yet finalized. -/
  | active
  /-- 2: FINISH has completed. -/
  | finalized
  deriving DecidableEq, Repr

/-- One engine record E[e]: `l` lanes of `w` bits, a tail buffer of `cap` bytes (capacity = block size − 1) and a tail
length of `tw` bits (R7, R33-R37). -/
structure Engine (w l cap tw : Nat) where
  /-- E[e].STATE (R31). -/
  state : Lifecycle
  /-- E[e].H[j], the accumulator lanes (R33). -/
  h : Vector (BitVec w) l
  /-- E[e].TBUF, a fixed-size array; the bytes at index TLEN and above are unspecified and never read (R35). -/
  tbuf : Vector Byte cap
  /-- E[e].TLEN, the number of valid tail bytes (R36). -/
  tlen : BitVec tw
  /-- E[e].LEN, the total length counter, modulo 2^64 (R37, R9). -/
  len : BitVec 64
  deriving DecidableEq, Repr

/-- E[0], Hasher32: one 32-bit lane, 4-byte blocks. -/
abbrev EngineH32 := Engine 32 1 3 2

/-- E[1], Hasher128x86: four 32-bit lanes (conflict C1), 16-byte blocks. -/
abbrev EngineX86 := Engine 32 4 15 4

/-- E[2], Hasher128x64: two 64-bit lanes, 16-byte blocks. -/
abbrev EngineX64 := Engine 64 2 15 4

/-- The status of a response, RSTAT (`30_encoding.md` R91). RSTAT = 3 is never produced, so it has no constructor. -/
inductive Status where
  /-- 0: the command executed. -/
  | ok
  /-- 1: the command word is not legal. -/
  | illegal
  /-- 2: legal, but not allowed in the engine's lifecycle state. -/
  | seqErr
  deriving DecidableEq, Repr

/-- One response: RSTAT and RDATA (R80, R91, R92). -/
structure Response where
  /-- RSTAT. -/
  rstat : Status
  /-- RDATA, 128 bits. -/
  rdata : Data
  deriving DecidableEq, Repr

/-- What the host can do at the port (R281), each when it takes effect: a request transfers, a response is taken, `rst` is
asserted, `rst` is released. `wait` is the host letting a turn pass (its liberty to delay). -/
inductive HostMove where
  /-- Send a request; it transfers when the block is ready. -/
  | request (r : Request)
  /-- Take the response that is offered. -/
  | take
  /-- Assert `rst`. -/
  | assertRst
  /-- Release `rst`. -/
  | releaseRst
  /-- Do nothing for one turn. -/
  | wait
  deriving DecidableEq, Repr

/-- The state of the block and its port. -/
structure State where
  /-- E[0] (R30). -/
  h32 : EngineH32
  /-- E[1] (R30). -/
  x86 : EngineX86
  /-- E[2] (R30). -/
  x64 : EngineX64
  /-- The accepted request that has no response yet (R81, R280). -/
  inFlight : Option Request
  /-- The response that has been produced and not yet taken; while there is one the block is held (R275). -/
  rsp : Option Response
  /-- The level of the `rst` input (R80, R270). -/
  rst : Bool
  /-- MODEL'S OWN: the host's moves still to come, in the order they take effect (log entry 3). -/
  host : List HostMove
  /-- MODEL'S OWN: the responses the host has taken, oldest first, the observation of R283 (log entry 3). -/
  taken : List Response
  deriving DecidableEq, Repr

/-- Why a step could stop with a fault: nothing. The hashing computation raises nothing (R240), there are no traps (R246),
and both refusals are ordinary responses (R241, R281), so there is no constructor: no step of this model faults. Safe. -/
inductive Fault where
  deriving DecidableEq, Repr

/-- Why a step could refuse an instruction. -/
inductive Refusal where
  /-- Raised by an arm of `exec` whose instruction has no meaning yet; no arm raises it now. Safe: the machine stops. -/
  | notModelled (mnemonic : String)
  deriving DecidableEq, Repr

/-- The reset values of one engine (R41): UNINIT, TLEN = 0, LEN = 0; H and TBUF as `Config` names them (log entry 1). -/
def Engine.reset (w l cap tw : Nat) : Engine w l cap tw where
  state := .uninit
  h := Vector.replicate l (Config.resetLane w)
  tbuf := Vector.replicate cap Config.resetTailByte
  tlen := 0
  len := 0

/-- The machine right after reset: every engine reset, no request in flight, no response waiting, `rst` released (R41,
R270, R271, R282). The host's moves and the responses taken are empty: a program is supplied from outside (log entry 4). -/
def State.reset : State where
  h32 := Engine.reset 32 1 3 2
  x86 := Engine.reset 32 4 15 4
  x64 := Engine.reset 64 2 15 4
  inFlight := none
  rsp := none
  rst := false
  host := []
  taken := []

end Sys2Proof.Machine
end

