-- ==== Sys2Proof/Machine/Flags.lean ====
section
/-! DEFINITION. The block has no flags and no condition codes (`10_state.md` R44). What it reports instead are values of a
response, not state: the 2-bit status code (`30_encoding.md` R91) and the word STATUS returns (R92, `41_streaming.md`
R161-R163). -/

namespace Sys2Proof.Machine

/-- The value of E[e].STATE as STATUS returns it (R31). -/
def Lifecycle.code : Lifecycle → BitVec 2
  | .uninit => 0
  | .active => 1
  | .finalized => 2

/-- The value of RSTAT (R91). -/
def Status.code : Status → BitVec 2
  | .ok => 0
  | .illegal => 1
  | .seqErr => 2

/-- The RDATA of STATUS: bits 1:0 are STATE, bits 11:8 are TLEN zero-extended, bits 127:64 are LEN, every other bit is 0
(R92, R161). -/
def statusWord (e : Engine w l cap tw) : Data :=
  e.state.code.setWidth 128 ||| (e.tlen.setWidth 128 <<< 8) ||| (e.len.setWidth 128 <<< 64)

end Sys2Proof.Machine
end

