-- ==== Sys2Proof/Machine/Mixer.lean ====
section
/-! DEFINITION. The mixing functions: block mix (`40_block_mixer.md`), tail mix, length fold, cross-fold and avalanche
(`42_finalization.md`). Each is a pure function of lanes and bytes (R121, R204); all arithmetic wraps (`00_scope.md` R12).
The constants are the spec's, from general knowledge of the reference algorithm (`93_implementation_defined.md` G1-G6,
log entry 6). -/

namespace Sys2Proof.Machine

/-- `rotl_W(a, r)` for 0 < r < W (R12). -/
def rotl (a : BitVec w) (r : Nat) : BitVec w := (a <<< r) ||| (a >>> (w - r))

/-- The constants of one lane (R115, R117, R119). -/
structure LaneParams (w l : Nat) where
  /-- The lane j, and the sub-word mixed into it (R111). -/
  lane : Fin l
  /-- First k-mix constant. -/
  ca : BitVec w
  /-- k-mix rotation. -/
  r1 : Nat
  /-- Second k-mix constant. -/
  cb : BitVec w
  /-- Lane rotation. -/
  r2 : Nat
  /-- The neighbour n(j) of the cross-add; none for the one lane of Hasher32. -/
  next : Option (Fin l)
  /-- Additive constant N_j. -/
  add : BitVec w

/-- Hasher32 (R115). -/
def lanesH32 : List (LaneParams 32 1) :=
  [⟨0, 0xcc9e2d51, 15, 0x1b873593, 13, none, 0xe6546b64⟩]

/-- Hasher128x86, lanes in the order they are updated (R117, R118). -/
def lanesX86 : List (LaneParams 32 4) :=
  [⟨0, 0x239b961b, 15, 0xab0e9789, 19, some 1, 0x561ccd1b⟩,
   ⟨1, 0xab0e9789, 16, 0x38b34ae5, 17, some 2, 0x0bcaa747⟩,
   ⟨2, 0x38b34ae5, 17, 0xa1e38b93, 15, some 3, 0x96cd1c35⟩,
   ⟨3, 0xa1e38b93, 18, 0x239b961b, 13, some 0, 0x32ac3b17⟩]

/-- Hasher128x64, lanes in the order they are updated (R119, R120). -/
def lanesX64 : List (LaneParams 64 2) :=
  [⟨0, 0x87c37b91114253d5, 31, 0x4cf5ad432745937f, 27, some 1, 0x52dce729⟩,
   ⟨1, 0x4cf5ad432745937f, 33, 0x87c37b91114253d5, 31, some 0, 0x38495ab5⟩]

/-- `kmix_W(k; ca, r, cb)` (R112). -/
def kmix (k ca : BitVec w) (r : Nat) (cb : BitVec w) : BitVec w := rotl (k * ca) r * cb

/-- Sub-word j of a block: `LE_W(blk[(W/8)·j : (W/8)·(j+1)])` (R111). -/
def subWord (w : Nat) (blk : List Byte) (j : Nat) : BitVec w := leWord w ((blk.drop (w / 8 * j)).take (w / 8))

/-- One lane update: exclusive-or, rotate, cross-add, multiply by 5, add the constant, in that order (R114, conflict C2).
The neighbour is read from the lanes as the block's earlier updates left them (R15). -/
def mixLane (p : LaneParams w l) (k : BitVec w) (h : Vector (BitVec w) l) : Vector (BitVec w) l :=
  let rotated := rotl (h[p.lane] ^^^ kmix k p.ca p.r1 p.cb) p.r2
  let crossed := match p.next with
    | some n => rotated + h[n]
    | none => rotated
  h.set p.lane (crossed * 5 + p.add)

/-- `BlockMix_v`: every lane in order, each by its own sub-word (R116, R118, R120). -/
def blockMix (ps : List (LaneParams w l)) (h : Vector (BitVec w) l) (blk : List Byte) : Vector (BitVec w) l :=
  ps.foldl (fun h p => mixLane p (subWord w blk p.lane) h) h

/-- The first `n` blocks of `bytes` mixed in order, and the bytes left over (the loop of R151). -/
def mixBlocks (ps : List (LaneParams w l)) (bs : Nat) :
    Nat → Vector (BitVec w) l → List Byte → Vector (BitVec w) l × List Byte
  | 0, h, bytes => (h, bytes)
  | n + 1, h, bytes => mixBlocks ps bs n (blockMix ps h (bytes.take bs)) (bytes.drop bs)

/-- `TailMix_v(H, t, n)`: the tail padded with zeros to a block; each sub-word that holds at least one tail byte gets its
k-mix and is exclusive-ored into its lane, and nothing more (R193-R196). -/
def tailMix (ps : List (LaneParams w l)) (bs : Nat) (h : Vector (BitVec w) l) (tail : List Byte) :
    Vector (BitVec w) l :=
  let pad := tail ++ List.replicate (bs - tail.length) 0
  ps.foldl (fun h p =>
    if w / 8 * p.lane < tail.length then
      h.set p.lane (h[p.lane] ^^^ kmix (subWord w pad p.lane) p.ca p.r1 p.cb)
    else h) h

/-- The length fold: each lane exclusive-ored with LEN mod 2^W (R197). -/
def foldLength (len : BitVec 64) (h : Vector (BitVec w) l) : Vector (BitVec w) l :=
  Vector.ofFn fun j => h[j] ^^^ len.setWidth w

/-- `fmix32` (R190, conflict C3). -/
def fmix32 (h : Word32) : Word32 :=
  let h := h ^^^ (h >>> 16)
  let h := h * 0x85ebca6b
  let h := h ^^^ (h >>> 13)
  let h := h * 0xc2b2ae35
  h ^^^ (h >>> 16)

/-- `fmix64` (R191, conflict C3). -/
def fmix64 (k : Word64) : Word64 :=
  let k := k ^^^ (k >>> 33)
  let k := k * 0xff51afd7ed558ccd
  let k := k ^^^ (k >>> 33)
  let k := k * 0xc4ceb9fe1a85ec53
  k ^^^ (k >>> 33)

/-- The cross-fold of Hasher128x86, used before and after the avalanche: all lanes are summed into h[0], then the new
h[0] is added to each other lane (R199). -/
def crossFoldX86 (h : Vector Word32 4) : Vector Word32 4 :=
  let h0 := h[0] + h[1] + h[2] + h[3]
  #v[h0, h[1] + h0, h[2] + h0, h[3] + h0]

/-- The cross-fold of Hasher128x64 (R200). -/
def crossFoldX64 (h : Vector Word64 2) : Vector Word64 2 :=
  let h0 := h[0] + h[1]
  #v[h0, h[1] + h0]

/-- The lanes serialized little-endian in index order, H[0] first (R64). -/
def digestBytes (h : Vector (BitVec w) l) : List Byte := h.toList.flatMap bytesLE

/-- The avalanche mix applied to each lane independently (step 4 of MUR3 §4.3). -/
def avalanche (fmix : BitVec w → BitVec w) (h : Vector (BitVec w) l) : Vector (BitVec w) l :=
  Vector.ofFn fun j => fmix h[j]

/-- `Final_H32` on the lanes, the valid tail and LEN: the 4 digest bytes (R198). There is no cross-fold. -/
def finalH32 (h : Vector Word32 1) (tail : List Byte) (len : BitVec 64) : List Byte :=
  digestBytes (avalanche fmix32 (foldLength len (tailMix lanesH32 4 h tail)))

/-- `Final_X86`: the 16 digest bytes (R199). -/
def finalX86 (h : Vector Word32 4) (tail : List Byte) (len : BitVec 64) : List Byte :=
  digestBytes (crossFoldX86 (avalanche fmix32 (crossFoldX86 (foldLength len (tailMix lanesX86 16 h tail)))))

/-- `Final_X64`: the 16 digest bytes (R200). -/
def finalX64 (h : Vector Word64 2) (tail : List Byte) (len : BitVec 64) : List Byte :=
  digestBytes (crossFoldX64 (avalanche fmix64 (crossFoldX64 (foldLength len (tailMix lanesX64 16 h tail)))))

end Sys2Proof.Machine
end

