-- ==== Sys2Proof/Machine/Ops.lean ====
section
/-! DEFINITION. The named operations over the state. There is no memory and no register file (`20_memory.md` R60,
`10_state.md` R42), so these are: the engine's own operations (INIT's load, the absorb of a chunk, the move to
FINALIZED), the replacement of one engine record, the response (`00_scope.md` R16), the refusal that stands in the place
of an exception entry (`60_exceptions.md` R244, R246), and reset. There is no return from an exception (R247). -/

namespace Sys2Proof.Machine

/-- `TBUF[0:TLEN]`, the valid tail bytes in stream order (R35). -/
def Engine.tail (e : Engine w l cap tw) : List Byte := e.tbuf.toList.take e.tlen.toNat

/-- TBUF with `rest` stored from index 0; the bytes above keep their old values, as R151 lets a model do (log entry 2). -/
def storeTail (old : Vector Byte cap) (rest : List Byte) : Vector Byte cap :=
  Vector.ofFn fun i => rest.getD i old[i]

/-- `InitLanes_v` less its response: every lane is the seed, TLEN = 0, LEN = 0, ACTIVE; TBUF is not written (R154). -/
def Engine.init (seed : BitVec w) (e : Engine w l cap tw) : Engine w l cap tw :=
  { e with state := .active, h := Vector.replicate l seed, tlen := 0, len := 0 }

/-- `Absorb_v(e, chunk)`: the chunk joined to the tail, every complete block of `cap + 1` bytes mixed, the rest kept as the
tail, LEN advanced by the chunk's length modulo 2^64 (R151). -/
def Engine.absorb (ps : List (LaneParams w l)) (chunk : List Byte) (e : Engine w l cap tw) : Engine w l cap tw :=
  let comb := e.tail ++ chunk
  let mixed := mixBlocks ps (cap + 1) (comb.length / (cap + 1)) e.h comb
  { e with
    h := mixed.1
    tbuf := storeTail e.tbuf mixed.2
    tlen := BitVec.ofNat tw mixed.2.length
    len := e.len + BitVec.ofNat 64 chunk.length }

/-- What FINISH writes: STATE alone (R201, decision D17). -/
def Engine.finalize (e : Engine w l cap tw) : Engine w l cap tw := { e with state := .finalized }

/-- E[0] replaced; the other engines are untouched (R46). -/
def State.setH32 (e : EngineH32) (s : State) : State := { s with h32 := e }

/-- E[1] replaced (R46). -/
def State.setX86 (e : EngineX86) (s : State) : State := { s with x86 := e }

/-- E[2] replaced (R46). -/
def State.setX64 (e : EngineX64) (s : State) : State := { s with x64 := e }

/-- `respond(st, rd)`: the request in flight gets its one response, which waits to be taken (R16, R81). -/
def State.respond (st : Status) (rd : Data) (s : State) : State := { s with inFlight := none, rsp := some ⟨st, rd⟩ }

/-- `raise ILLEGAL` and `raise SEQERR`: a response with that status and RDATA = 0, and no write to any engine (R16, R244).
This is the block's only exceptional outcome: nothing is saved and control goes nowhere (R246). -/
def State.refuse (st : Status) (s : State) : State := s.respond st 0

/-- The lifecycle check of WRITE and FINISH: SEQERR unless the engine is ACTIVE (R150, R243). -/
def whenActive (state : Lifecycle) (done s : State) : State :=
  if state = .active then done else s.refuse .seqErr

/-- Asserting `rst`: every engine to its reset state, a request in flight dropped with no response, a waiting response
dropped (R270). The host's own record of what it took and will do is not the block's to reset. -/
def State.assertReset (s : State) : State :=
  { State.reset with rst := true, host := s.host, taken := s.taken }

end Sys2Proof.Machine
end

