-- ==== Sys2Proof/Machine/Finish.lean ====
section
/-! DEFINITION. FINISH, the source's `finish(engine)`: the digest of an ACTIVE engine in RDATA, the engine to FINALIZED;
SEQERR otherwise (`42_finalization.md` R198-R203, `30_encoding.md` R92). -/

namespace Sys2Proof.Machine

/-- `finish.h32` (R201): RDATA[31:0] is the digest, RDATA[127:32] = 0. -/
def execFinishH32 (s : State) : Host.Outcome State Fault Refusal :=
  .next (whenActive s.h32.state
    ((s.setH32 s.h32.finalize).respond .ok (packBytes (finalH32 s.h32.h s.h32.tail s.h32.len))) s)

/-- `finish.x86` (R202): digest byte i at RDATA[8i+7:8i]. -/
def execFinishX86 (s : State) : Host.Outcome State Fault Refusal :=
  .next (whenActive s.x86.state
    ((s.setX86 s.x86.finalize).respond .ok (packBytes (finalX86 s.x86.h s.x86.tail s.x86.len))) s)

/-- `finish.x64` (R203): digest byte i at RDATA[8i+7:8i]. -/
def execFinishX64 (s : State) : Host.Outcome State Fault Refusal :=
  .next (whenActive s.x64.state
    ((s.setX64 s.x64.finalize).respond .ok (packBytes (finalX64 s.x64.h s.x64.tail s.x64.len))) s)

end Sys2Proof.Machine
end

