-- ==== Sys2Proof/Machine/Init.lean ====
section
/-! DEFINITION. INIT, the source's `new(seed)`: legal in every STATE (`41_streaming.md` R154-R157, R164). -/

namespace Sys2Proof.Machine

/-- `init.h32 seed32` (R155). -/
def execInitH32 (seed : Word32) (s : State) : Host.Outcome State Fault Refusal :=
  .next ((s.setH32 (s.h32.init seed)).respond .ok 0)

/-- `init.x86 seed32` (R156). -/
def execInitX86 (seed : Word32) (s : State) : Host.Outcome State Fault Refusal :=
  .next ((s.setX86 (s.x86.init seed)).respond .ok 0)

/-- `init.x64 seed64` (R157). -/
def execInitX64 (seed : Word64) (s : State) : Host.Outcome State Fault Refusal :=
  .next ((s.setX64 (s.x64.init seed)).respond .ok 0)

end Sys2Proof.Machine
end

