-- ==== Sys2Proof/Machine/Nop.lean ====
section
/-! DEFINITION. NOP (`41_streaming.md` R153). -/

namespace Sys2Proof.Machine

/-- `nop`: responds OK with RDATA = 0 and changes no engine (R153). -/
def execNop (s : State) : Host.Outcome State Fault Refusal := .next (s.respond .ok 0)

end Sys2Proof.Machine
end

