-- ==== Sys2Proof/Machine/Status.lean ====
section
/-! DEFINITION. STATUS: reports STATE, TLEN and LEN, never the lanes or the tail, in every STATE (`41_streaming.md`
R161-R163). -/

namespace Sys2Proof.Machine

/-- `status.h32` (R161). -/
def execStatusH32 (s : State) : Host.Outcome State Fault Refusal := .next (s.respond .ok (statusWord s.h32))

/-- `status.x86` (R162). -/
def execStatusX86 (s : State) : Host.Outcome State Fault Refusal := .next (s.respond .ok (statusWord s.x86))

/-- `status.x64` (R163). -/
def execStatusX64 (s : State) : Host.Outcome State Fault Refusal := .next (s.respond .ok (statusWord s.x64))

end Sys2Proof.Machine
end

