-- ==== Sys2Proof/Machine/Write.lean ====
section
/-! DEFINITION. WRITE, the source's `write(engine, bytes)`: absorbs a chunk into an ACTIVE engine, SEQERR otherwise
(`41_streaming.md` R150, R151, R158-R160). -/

namespace Sys2Proof.Machine

/-- `write.h32 nb, bytes` (R158). -/
def execWriteH32 (chunk : List Byte) (s : State) : Host.Outcome State Fault Refusal :=
  .next (whenActive s.h32.state ((s.setH32 (s.h32.absorb lanesH32 chunk)).respond .ok 0) s)

/-- `write.x86 nb, bytes` (R159). -/
def execWriteX86 (chunk : List Byte) (s : State) : Host.Outcome State Fault Refusal :=
  .next (whenActive s.x86.state ((s.setX86 (s.x86.absorb lanesX86 chunk)).respond .ok 0) s)

/-- `write.x64 nb, bytes` (R160). -/
def execWriteX64 (chunk : List Byte) (s : State) : Host.Outcome State Fault Refusal :=
  .next (whenActive s.x64.state ((s.setX64 (s.x64.absorb lanesX64 chunk)).respond .ok 0) s)

end Sys2Proof.Machine
end

