-- ==== Sys2Proof/Machine/Dispatch.lean ====
section
/-! DEFINITION. `exec`: one arm per command, each a direct call of its meaning (`41_streaming.md` R150). -/

namespace Sys2Proof.Machine

def exec (i : Instr) (s : State) : Host.Outcome State Fault Refusal :=
  match i with
  | .nop => Sys2Proof.Machine.execNop s
  | .initH32 seed => Sys2Proof.Machine.execInitH32 seed s
  | .initX86 seed => Sys2Proof.Machine.execInitX86 seed s
  | .initX64 seed => Sys2Proof.Machine.execInitX64 seed s
  | .writeH32 chunk => Sys2Proof.Machine.execWriteH32 chunk s
  | .writeX86 chunk => Sys2Proof.Machine.execWriteX86 chunk s
  | .writeX64 chunk => Sys2Proof.Machine.execWriteX64 chunk s
  | .finishH32 => Sys2Proof.Machine.execFinishH32 s
  | .finishX86 => Sys2Proof.Machine.execFinishX86 s
  | .finishX64 => Sys2Proof.Machine.execFinishX64 s
  | .statusH32 => Sys2Proof.Machine.execStatusH32 s
  | .statusX86 => Sys2Proof.Machine.execStatusX86 s
  | .statusX64 => Sys2Proof.Machine.execStatusX64 s

end Sys2Proof.Machine
end

