-- ==== Sys2Proof/Machine/Port.lean ====
section
/-! DEFINITION. The command port: one request, one response, strictly in turn (`30_encoding.md` R80, R81), the host's
moves (`70_reset_and_hazards.md` R281), reset (R270) and the execution of an accepted request (`41_streaming.md` R150).
How the host's and the block's turns are ordered is log entry 3. -/

namespace Sys2Proof.Machine

/-- The block accepts a request only while `rst` is released, no earlier request awaits its response, and no response
waits to be taken (R81, R270, R275). -/
def State.ready (s : State) : Bool := !s.rst && s.inFlight.isNone && s.rsp.isNone

/-- A request transfers (R80). -/
def State.accept (r : Request) (s : State) : State := { s with inFlight := some r }

/-- The response, if one is offered, transfers to the host and lifts the hold (R275). -/
def State.takeResponse (p : Response) (s : State) : State := { s with rsp := none, taken := s.taken ++ [p] }

/-- The level of `rst` after it is released (R271). -/
def State.releaseReset (s : State) : State := { s with rst := false }

/-- The host's moves still to come. -/
def State.setHost (moves : List HostMove) (s : State) : State := { s with host := moves }

/-- The host's turn. A move that cannot take effect waits: a request while the block is not ready (R275), a take while no
response is offered. With no move left the block holds its state (R254). -/
def hostTurn (s : State) : State :=
  match s.host with
  | [] => s
  | .request r :: rest => if s.ready then (s.setHost rest).accept r else s
  | .take :: rest =>
    match s.rsp with
    | some p => (s.setHost rest).takeResponse p
    | none => s
  | .assertRst :: rest => (s.setHost rest).assertReset
  | .releaseRst :: rest => (s.setHost rest).releaseReset
  | .wait :: rest => s.setHost rest

/-- `Execute(CMD, DATA)`: ILLEGAL is decided first; a legal command has its own meaning (R150, R242, R245). -/
def execute (r : Request) (s : State) : Host.Outcome State Fault Refusal :=
  match decode r with
  | .instr i => exec i s
  | .illegal _ => .next (s.refuse .illegal)

/-- One turn. The host may assert `rst` at any time, with a command in flight too (R281); otherwise the block's step is
enabled exactly when a request is in flight (R280); otherwise it is the host's turn. -/
def turn (s : State) : Host.Outcome State Fault Refusal :=
  match s.host, s.rst, s.inFlight with
  | .assertRst :: _, _, _ => .next (hostTurn s)
  | _, false, some r => execute r s
  | _, _, _ => .next (hostTurn s)

/-- The state in which a request has just transferred to a free port: `r` in flight, no response waiting, `rst` released.
A host about to assert `rst` first lets the block have its turn. Nothing else changes. -/
def State.loadRequest (r : Request) (s : State) : State :=
  { s with
    inFlight := some r
    rsp := none
    rst := false
    host := match s.host with
      | .assertRst :: rest => .wait :: .assertRst :: rest
      | moves => moves }

end Sys2Proof.Machine
end

