-- ==== Sys2Proof/Machine/Step.lean ====
section
/-! DEFINITION. One step of the machine: one turn at the command port (`Machine/Port.lean`), and how a command is placed
where the next step executes it. -/

namespace Sys2Proof.Machine

/-- One step: one turn of the block or of its host (`70_reset_and_hazards.md` R280, R281). -/
def step (s : State) : Host.Outcome State Fault Refusal := turn s

/-- `s` with the instruction whose bits are `w` in flight at the port, so that the next step executes it. The block fetches
nothing (`10_state.md` R43): this stands for the host's request transferring (log entry 4). -/
def State.withFetchWord (s : State) (nbits w : Nat) : State := s.loadRequest (requestOfBits nbits w)

end Sys2Proof.Machine
end

