-- ==== Sys2Proof/Machine/Assembler.lean ====
section
/-! DEFINITION. The assembler's side of the command set, after the text of a line has been read: the lines of
`30_encoding.md` R95 and the pseudo-instructions of `43_one_shot.md` R230, R231, which are the host's and not commands of
the block. -/

namespace Sys2Proof.Machine

/-- One assembly line, its numbers and bytes already read from its text (R95). -/
inductive AsmLine where
  /-- `nop`. -/
  | nop
  /-- `init.<v> <seed>`. -/
  | init (v : Variant) (seed : Nat)
  /-- `write.<v> <nb>, <bytes>`. -/
  | write (v : Variant) (nb : Nat) (bytes : List Byte)
  /-- `finish.<v>`. -/
  | finish (v : Variant)
  /-- `status.<v>`. -/
  | status (v : Variant)
  /-- `absorb.<v> <bytes>`, a pseudo-instruction (R230). -/
  | absorb (v : Variant) (bytes : List Byte)
  /-- `hash.<v> <seed>, <bytes>`, a pseudo-instruction (R231). -/
  | hash (v : Variant) (seed : Nat) (bytes : List Byte)
  deriving DecidableEq, Repr

/-- INIT of a variant; a seed wider than the variant's seed is an assembly error (R95). -/
def asmInit (v : Variant) (seed : Nat) : Option Instr :=
  match v with
  | .h32 => if seed < 2 ^ 32 then some (.initH32 (BitVec.ofNat 32 seed)) else none
  | .x86 => if seed < 2 ^ 32 then some (.initX86 (BitVec.ofNat 32 seed)) else none
  | .x64 => if seed < 2 ^ 64 then some (.initX64 (BitVec.ofNat 64 seed)) else none

/-- WRITE of a variant. -/
def asmWrite (v : Variant) (chunk : List Byte) : Instr :=
  match v with
  | .h32 => .writeH32 chunk
  | .x86 => .writeX86 chunk
  | .x64 => .writeX64 chunk

/-- FINISH of a variant. -/
def asmFinish (v : Variant) : Instr :=
  match v with
  | .h32 => .finishH32
  | .x86 => .finishX86
  | .x64 => .finishX64

/-- STATUS of a variant. -/
def asmStatus (v : Variant) : Instr :=
  match v with
  | .h32 => .statusH32
  | .x86 => .statusX86
  | .x64 => .statusX64

/-- The first `n` pieces of 16 bytes; the last may be shorter (R230). -/
def pieces : Nat → List Byte → List (List Byte)
  | 0, _ => []
  | n + 1, bytes => bytes.take Config.maxChunk :: pieces n (bytes.drop Config.maxChunk)

/-- `absorb.<v> <bytes>`: ⌈n/16⌉ WRITEs in order, none for no bytes (R230). -/
def asmAbsorb (v : Variant) (bytes : List Byte) : List Instr :=
  (pieces ((bytes.length + 15) / Config.maxChunk) bytes).map (asmWrite v)

/-- The commands of a line, none where the line is an assembly error: a seed too wide, a byte count out of range, or a
byte list whose length differs from nb (R95). -/
def assemble : AsmLine → Option (List Instr)
  | .nop => some [.nop]
  | .init v seed => (asmInit v seed).map fun i => [i]
  | .write v nb bytes => if nb ≤ Config.maxChunk ∧ bytes.length = nb then some [asmWrite v bytes] else none
  | .finish v => some [asmFinish v]
  | .status v => some [asmStatus v]
  | .absorb v bytes => some (asmAbsorb v bytes)
  | .hash v seed bytes => (asmInit v seed).map fun i => i :: (asmAbsorb v bytes ++ [asmFinish v])

end Sys2Proof.Machine
end

