-- ==== Sys2Proof/Safety.lean ====
section
/-! DEFINITION. The terms claims about this machine use: legality as `30_encoding.md` R90 writes it, the consistency of a
state (`10_state.md` R38, R41, `30_encoding.md` R81), the two readings of absorbing a stream that R151 and R62 give beside
the block's own, what no response can show (`10_state.md` R40, `70_reset_and_hazards.md` R272), a host's run of commands
and its observation (R283). -/

namespace Sys2Proof.Safety

open Machine

/-- `Legal(CMD)` of R90, field by field as R83 places them. -/
def LegalCmd (cmd : Cmd) : Prop :=
  cmd.extractLsb' 13 19 = 0 ∧ cmd.extractLsb' 6 2 = 0 ∧
    ((cmd.extractLsb' 0 4 = 0 ∧ cmd.extractLsb' 4 2 = 0 ∧ cmd.extractLsb' 8 5 = 0) ∨
     ((cmd.extractLsb' 0 4 = 1 ∨ cmd.extractLsb' 0 4 = 3 ∨ cmd.extractLsb' 0 4 = 4) ∧
        cmd.extractLsb' 4 2 ≠ 3 ∧ cmd.extractLsb' 8 5 = 0) ∨
     (cmd.extractLsb' 0 4 = 2 ∧ cmd.extractLsb' 4 2 ≠ 3 ∧ (cmd.extractLsb' 8 5).toNat ≤ 16))

/-- R38 with the reset values of R41: TLEN = LEN mod BS in every state an engine can reach, and both are 0 in UNINIT. -/
def EngineConsistent (e : Engine w l cap tw) : Prop :=
  e.tlen.toNat = e.len.toNat % (cap + 1) ∧ (e.state = .uninit → e.len = 0)

/-- The invariant of the machine: each engine consistent (R38), at most one transaction open at the port (R81), and while
`rst` is asserted no engine created and no transaction open (R270). -/
structure StateConsistent (s : State) : Prop where
  /-- R38 for E[0]. -/
  h32 : EngineConsistent s.h32
  /-- R38 for E[1]. -/
  x86 : EngineConsistent s.x86
  /-- R38 for E[2]. -/
  x64 : EngineConsistent s.x64
  /-- A request in flight and a response waiting are never there together (R81). -/
  oneOpen : s.inFlight = none ∨ s.rsp = none
  /-- R270 while `rst` is asserted. -/
  inReset : s.rst = true → s.h32.state = .uninit ∧ s.x86.state = .uninit ∧ s.x64.state = .uninit ∧
    s.inFlight = none ∧ s.rsp = none

/-- Two engine records that no sequence of commands can tell apart: the same STATE, TLEN and LEN, and, once created, the
same lanes and the same valid tail bytes (R40, R204, R272). -/
def SameEngine (e f : Engine w l cap tw) : Prop :=
  e.state = f.state ∧ e.tlen = f.tlen ∧ e.len = f.len ∧ (e.state ≠ .uninit → e.h = f.h ∧ e.tail = f.tail)

/-- Two states that no host can tell apart. -/
structure SameVisible (s t : State) : Prop where
  /-- E[0]. -/
  h32 : SameEngine s.h32 t.h32
  /-- E[1]. -/
  x86 : SameEngine s.x86 t.x86
  /-- E[2]. -/
  x64 : SameEngine s.x64 t.x64
  /-- The same request in flight. -/
  inFlight : s.inFlight = t.inFlight
  /-- The same response waiting. -/
  rsp : s.rsp = t.rsp
  /-- The same level of `rst`. -/
  rst : s.rst = t.rst
  /-- The same host. -/
  host : s.host = t.host
  /-- The same responses taken. -/
  taken : s.taken = t.taken

/-- One byte of the byte-serial reading of Absorb (R151): it fills the tail, or completes and mixes a block. -/
def absorbByte (ps : List (LaneParams w l)) (e : Engine w l cap tw) (b : Byte) : Engine w l cap tw :=
  if e.tlen.toNat = cap then
    { e with h := blockMix ps e.h (e.tbuf.toList ++ [b]), tlen := 0 }
  else
    { e with tbuf := Vector.ofFn (fun i => if i.val = e.tlen.toNat then b else e.tbuf[i]), tlen := e.tlen + 1 }

/-- The byte-serial reading of Absorb: each byte in turn, then LEN += nb (R151). -/
def absorbSerial (ps : List (LaneParams w l)) (chunk : List Byte) (e : Engine w l cap tw) : Engine w l cap tw :=
  let filled := chunk.foldl (absorbByte ps) e
  { filled with len := e.len + BitVec.ofNat 64 chunk.length }

/-- Block k of a stream, `S[BS·k : BS·k + BS]` (R62). -/
def streamBlock (bs : Nat) (stream : List Byte) (k : Nat) : List Byte := (stream.drop (bs * k)).take bs

/-- The lanes after every complete block of a stream, mixed in stream order into `h` (R62, R121). -/
def streamLanes (ps : List (LaneParams w l)) (bs : Nat) (h : Vector (BitVec w) l) (stream : List Byte) :
    Vector (BitVec w) l :=
  (List.range (stream.length / bs)).foldl (fun h k => blockMix ps h (streamBlock bs stream k)) h

/-- The last `|S| mod BS` bytes of a stream (R152). -/
def streamTail (bs : Nat) (stream : List Byte) : List Byte := stream.drop (bs * (stream.length / bs))

/-- `OneShot_H32(seed, B)` as a function of the whole of B, with no chunks and no engine (R232, R62, R198). -/
def oneShotH32 (seed : Word32) (stream : List Byte) : Data :=
  packBytes (finalH32 (streamLanes lanesH32 4 (Vector.replicate 1 seed) stream) (streamTail 4 stream)
    (BitVec.ofNat 64 stream.length))

/-- `OneShot_X86(seed, B)` (R232, R62, R199). -/
def oneShotX86 (seed : Word32) (stream : List Byte) : Data :=
  packBytes (finalX86 (streamLanes lanesX86 16 (Vector.replicate 4 seed) stream) (streamTail 16 stream)
    (BitVec.ofNat 64 stream.length))

/-- `OneShot_X64(seed, B)` (R232, R62, R200). -/
def oneShotX64 (seed : Word64) (stream : List Byte) : Data :=
  packBytes (finalX64 (streamLanes lanesX64 16 (Vector.replicate 2 seed) stream) (streamTail 16 stream)
    (BitVec.ofNat 64 stream.length))

/-- The engine a command addresses; NOP addresses none (R93, R153). -/
def target : Instr → Option Variant
  | .nop => none
  | .initH32 _ => some .h32
  | .initX86 _ => some .x86
  | .initX64 _ => some .x64
  | .writeH32 _ => some .h32
  | .writeX86 _ => some .x86
  | .writeX64 _ => some .x64
  | .finishH32 => some .h32
  | .finishX86 => some .x86
  | .finishX64 => some .x64
  | .statusH32 => some .h32
  | .statusX86 => some .x86
  | .statusX64 => some .x64

/-- The STATE of the engine an ENG value selects (R85). -/
def addressedState (s : State) (eng : BitVec 2) : Lifecycle :=
  if eng = 0 then s.h32.state else if eng = 1 then s.x86.state else s.x64.state

/-- The next step is the block's: a request in flight, `rst` released and not about to be asserted (R280, R281). -/
def BlockTurn (s : State) (r : Request) : Prop :=
  s.rst = false ∧ s.inFlight = some r ∧ s.host.head? ≠ some .assertRst

/-- `s` with the request in flight answered by this response, and nothing else changed. -/
def answered (s : State) (rstat : Status) (rdata : Data) : State :=
  { s with inFlight := none, rsp := some ⟨rstat, rdata⟩ }

/-- The commands executed one after another on the engines, with no host between them. -/
def runCommands : List Instr → State → Host.Outcome State Fault Refusal
  | [], s => .next s
  | i :: is, s =>
    match exec i s with
    | .next t => runCommands is t
    | .fault r => .fault r
    | .refused r => .refused r

/-- A host that sends each request and takes its response before the next (R274, R275, R283). -/
def hostScript (requests : List Request) : List HostMove := requests.flatMap fun r => [.request r, .take]

/-- The port is free: `rst` released, nothing in flight, no response waiting (R282). -/
def Free (s : State) : Prop := s.rst = false ∧ s.inFlight = none ∧ s.rsp = none

/-- The observation of a run (R283): the responses in order, and STATE, TLEN, LEN of each engine as STATUS reports them. -/
structure Observation where
  /-- (RSTAT, RDATA) per request, in order. -/
  responses : List Response
  /-- STATUS of E[0], E[1] and E[2]. -/
  engines : List Data
  deriving DecidableEq, Repr

/-- What a run that ends in `s` has shown (R283). -/
def observe (s : State) : Observation := ⟨s.taken, [statusWord s.h32, statusWord s.x86, statusWord s.x64]⟩

/-- A run with no refusals: every response taken has RSTAT = OK (R283, U1, U7). -/
def Clean (s : State) : Prop := ∀ p ∈ s.taken, p.rstat = .ok

end Sys2Proof.Safety
end

