-- ==== Sys2Proof/Laws/PerInstr.lean ====
section
/-! SUPPORT. A statement about every command as syntax, proved constructor by constructor: its encoding is a legal command
word (`30_encoding.md` R90, R93). -/

namespace Sys2Proof.Laws.EncodesLegally

open Sys2Proof.Machine Sys2Proof.Safety

/-- A well-formed command encodes to a legal word (R90). -/
def Statement (i : Instr) : Prop := i.wellFormed = true → LegalCmd (encode i).cmd

/-- The word of a WRITE is legal for every byte count up to 16. -/
theorem write_word_legal (eng : Fin 3) (nb : Fin 17) : LegalCmd (cmdWord 2 eng nb) := by
  unfold LegalCmd
  revert eng nb
  decide

/-- The word of INIT, FINISH and STATUS is legal for each variant. -/
theorem operandless_word_legal (op : Fin 5) (eng : Fin 3) (h : op = 1 ∨ op = 3 ∨ op = 4) :
    LegalCmd (cmdWord op eng 0) := by
  unfold LegalCmd
  revert op eng
  decide

theorem nop : Statement .nop := fun _ => by unfold LegalCmd; decide
theorem initH32 (seed : Word32) : Statement (.initH32 seed) := fun _ => operandless_word_legal 1 0 (by decide)
theorem initX86 (seed : Word32) : Statement (.initX86 seed) := fun _ => operandless_word_legal 1 1 (by decide)
theorem initX64 (seed : Word64) : Statement (.initX64 seed) := fun _ => operandless_word_legal 1 2 (by decide)
theorem writeH32 (chunk : List Byte) : Statement (.writeH32 chunk) := fun h =>
  write_word_legal 0 ⟨chunk.length, Nat.lt_succ_of_le (of_decide_eq_true h)⟩
theorem writeX86 (chunk : List Byte) : Statement (.writeX86 chunk) := fun h =>
  write_word_legal 1 ⟨chunk.length, Nat.lt_succ_of_le (of_decide_eq_true h)⟩
theorem writeX64 (chunk : List Byte) : Statement (.writeX64 chunk) := fun h =>
  write_word_legal 2 ⟨chunk.length, Nat.lt_succ_of_le (of_decide_eq_true h)⟩
theorem finishH32 : Statement .finishH32 := fun _ => operandless_word_legal 3 0 (by decide)
theorem finishX86 : Statement .finishX86 := fun _ => operandless_word_legal 3 1 (by decide)
theorem finishX64 : Statement .finishX64 := fun _ => operandless_word_legal 3 2 (by decide)
theorem statusH32 : Statement .statusH32 := fun _ => operandless_word_legal 4 0 (by decide)
theorem statusX86 : Statement .statusX86 := fun _ => operandless_word_legal 4 1 (by decide)
theorem statusX64 : Statement .statusX64 := fun _ => operandless_word_legal 4 2 (by decide)

end Sys2Proof.Laws.EncodesLegally
end

