-- ==== Sys2Proof/Certificates/Slice0/Obligations.lean ====
section
/-! DEFINITION. The statements about the machine, from the numbered rules of the spec. Each docstring names the rule or the
part of the spec it states. The mixing constants rest on the spec's own general-knowledge items G1-G8 (log entry 6). -/

open Sys2Proof Sys2Proof.Machine Sys2Proof.Safety

/-! ### Encoding -/

/-- Decoding the assembler's encoding of any well-formed command gives the command back, every operand at every value
(R87, R88, R93, R95). -/
def Obligations.DecodeOfEncode : Prop := ∀ i : Instr, i.wellFormed = true → decode (encode i) = .instr i

/-- What the decoder reads is well formed, and its word is the word it was read from: no two words mean the same command
but for ignored DATA (R86, R93). -/
def Obligations.DecodedCommandEncodesToItsWord : Prop :=
  ∀ (r : Request) (i : Instr), decode r = .instr i → i.wellFormed = true ∧ (encode i).cmd = r.cmd

/-- R90: a word is legal exactly when Legal(CMD) holds, whatever DATA and the state are; any other is refused with ILLEGAL. -/
def Obligations.LegalExactlyWhenDecoded : Prop :=
  ∀ r : Request,
    (LegalCmd r.cmd ↔ ∃ i, decode r = .instr i) ∧
    (¬LegalCmd r.cmd → ∀ s : State, BlockTurn s r → step s = .next (answered s .illegal 0))

/-- R94: each reserved or malformed encoding is illegal, is refused with ILLEGAL, and changes no engine. -/
def Obligations.ReservedEncodingsRefused : Prop :=
  ∀ r : Request,
    (5 ≤ (r.cmd.extractLsb' 0 4).toNat ∨ r.cmd.extractLsb' 4 2 = 3 ∨
      r.cmd.extractLsb' 6 2 ≠ 0 ∨ r.cmd.extractLsb' 13 19 ≠ 0 ∨
      (16 < (r.cmd.extractLsb' 8 5).toNat ∧ r.cmd.extractLsb' 0 4 = 2) ∨
      (r.cmd.extractLsb' 8 5 ≠ 0 ∧ r.cmd.extractLsb' 0 4 ≠ 2) ∨
      (r.cmd.extractLsb' 4 2 ≠ 0 ∧ r.cmd.extractLsb' 0 4 = 0)) →
    (∃ why, decode r = .illegal why) ∧
      ∀ s : State, BlockTurn s r → step s = .next (answered s .illegal 0)

/-- R93 with the operands of R87, R88 and R89: each row is read from exactly its words, with exactly its operands; the DATA
bits a row does not name have no effect. -/
def Obligations.OpcodeMapExact : Prop :=
  ∀ r : Request,
    (decode r = .instr .nop ↔ r.cmd = 0x00000000) ∧
    (∀ seed, decode r = .instr (.initH32 seed) ↔ r.cmd = 0x00000001 ∧ seed = r.data.extractLsb' 0 32) ∧
    (∀ seed, decode r = .instr (.initX86 seed) ↔ r.cmd = 0x00000011 ∧ seed = r.data.extractLsb' 0 32) ∧
    (∀ seed, decode r = .instr (.initX64 seed) ↔ r.cmd = 0x00000021 ∧ seed = r.data.extractLsb' 0 64) ∧
    (∀ chunk, decode r = .instr (.writeH32 chunk) ↔
      chunk.length ≤ 16 ∧ r.cmd = BitVec.ofNat 32 (0x00000002 + chunk.length * 0x100) ∧
        ∀ j < chunk.length, chunk[j]? = some (r.data.extractLsb' (8 * j) 8)) ∧
    (∀ chunk, decode r = .instr (.writeX86 chunk) ↔
      chunk.length ≤ 16 ∧ r.cmd = BitVec.ofNat 32 (0x00000012 + chunk.length * 0x100) ∧
        ∀ j < chunk.length, chunk[j]? = some (r.data.extractLsb' (8 * j) 8)) ∧
    (∀ chunk, decode r = .instr (.writeX64 chunk) ↔
      chunk.length ≤ 16 ∧ r.cmd = BitVec.ofNat 32 (0x00000022 + chunk.length * 0x100) ∧
        ∀ j < chunk.length, chunk[j]? = some (r.data.extractLsb' (8 * j) 8)) ∧
    (decode r = .instr .finishH32 ↔ r.cmd = 0x00000003) ∧
    (decode r = .instr .finishX86 ↔ r.cmd = 0x00000013) ∧
    (decode r = .instr .finishX64 ↔ r.cmd = 0x00000023) ∧
    (decode r = .instr .statusH32 ↔ r.cmd = 0x00000004) ∧
    (decode r = .instr .statusX86 ↔ r.cmd = 0x00000014) ∧
    (decode r = .instr .statusX64 ↔ r.cmd = 0x00000024)

/-- Words written out from R83 and R93 decode to the commands they stand for, one at least of each family; the last is the
example of R95. -/
def Obligations.SampleWordsDecode : Prop :=
  decode ⟨0b00000000000000000000000000000000, 7⟩ = .instr .nop ∧
  decode ⟨0b00000000000000000000000000010001, 0x9747b28c⟩ = .instr (.initX86 0x9747b28c) ∧
  decode ⟨0b00000000000000000000000000100001, 0x100000000⟩ = .instr (.initX64 0x100000000) ∧
  decode ⟨0b00000000000000000000000000010011, 0⟩ = .instr .finishX86 ∧
  decode ⟨0b00000000000000000000000000100100, 0⟩ = .instr .statusX64 ∧
  decode ⟨0b00000000000000000000010000000010, 0x61616161⟩ = .instr (.writeH32 [0x61, 0x61, 0x61, 0x61])

/-- The encoding of a WRITE has chunk byte j on DATA[8j+7:8j] and zeros above the chunk (R65, R95). -/
def Obligations.EncodedChunkOnByteLanes : Prop :=
  ∀ chunk : List Byte, chunk.length ≤ 16 →
    ∀ row ∈ [Instr.writeH32, Instr.writeX86, Instr.writeX64],
      (∀ (j : Nat) (h : j < chunk.length), (encode (row chunk)).data.extractLsb' (8 * j) 8 = chunk[j]) ∧
      (∀ j, 8 * chunk.length ≤ j → (encode (row chunk)).data.getLsbD j = false)

/-! ### One step -/

/-- A step runs the decoded command: with a legal request in flight and the host not asserting `rst`, the step is the
command's own effect and nothing around it (R150, R280). -/
def Obligations.StepRunsDecodedCommand : Prop :=
  ∀ (s : State) (r : Request) (i : Instr), BlockTurn s r → decode r = .instr i → step s = exec i s

/-- A command placed at the port by its bits is executed by the very next step. -/
def Obligations.StepRunsPlacedWord : Prop :=
  ∀ (s : State) (nbits w : Nat) (i : Instr), decodeTableWord nbits w = some i →
    step (s.withFetchWord nbits w) = exec i (s.withFetchWord nbits w)

/-- R241, R242, R243, R245: an accepted request gets exactly one response, ILLEGAL exactly when the word is not legal,
SEQERR exactly when it is legal, is a WRITE or a FINISH, and its engine is not ACTIVE, and OK otherwise. -/
def Obligations.ResponseStatusExact : Prop :=
  ∀ (s : State) (r : Request), BlockTurn s r →
    ∃ t p, step s = .next t ∧ t.inFlight = none ∧ t.rsp = some p ∧
      (p.rstat = .illegal ↔ ¬LegalCmd r.cmd) ∧
      (p.rstat = .seqErr ↔ LegalCmd r.cmd ∧ (r.cmd.extractLsb' 0 4 = 2 ∨ r.cmd.extractLsb' 0 4 = 3) ∧
        addressedState s (r.cmd.extractLsb' 4 2) ≠ .active) ∧
      (p.rstat = .ok ↔ LegalCmd r.cmd ∧ ((r.cmd.extractLsb' 0 4 ≠ 2 ∧ r.cmd.extractLsb' 0 4 ≠ 3) ∨
        addressedState s (r.cmd.extractLsb' 4 2) = .active))

/-- R244: a refused command writes no state in any engine and answers RDATA = 0; the next command executes as if the
refused one had not been sent. -/
def Obligations.RefusalWritesNothing : Prop :=
  ∀ (s t : State) (r : Request) (p : Response), BlockTurn s r → step s = .next t → t.rsp = some p → p.rstat ≠ .ok →
    t = answered s p.rstat 0 ∧
    ∀ r' : Request, step (t.loadRequest r') = step (s.loadRequest r')

/-- No step stops: no fault and no refusal of the model, whatever the state (R240, R246, R284). -/
def Obligations.StepAlwaysAnswers : Prop := ∀ s : State, ∃ t, step s = .next t

/-! ### NOP, INIT, STATUS -/

/-- R153: NOP responds OK with RDATA = 0 and changes no state; a word with OP = 0 that is not exactly 0 is illegal. -/
def Obligations.NopRespondsOk : Prop :=
  (∀ data, decode ⟨0x00000000, data⟩ = .instr .nop) ∧
  (∀ r : Request, r.cmd.extractLsb' 0 4 = 0 → r.cmd ≠ 0x00000000 → ∃ why, decode r = .illegal why) ∧
  ∀ s : State, exec .nop s = .next (answered s .ok 0)

/-- R154-R157: in every state INIT loads the seed into every lane, clears TLEN and LEN, makes the engine ACTIVE, leaves
TBUF and every other engine alone, and responds OK; the seed is the low 32 or 64 bits of DATA. -/
def Obligations.InitLoadsSeed : Prop :=
  (∀ data, decode ⟨0x00000001, data⟩ = .instr (.initH32 (data.extractLsb' 0 32)) ∧
    decode ⟨0x00000011, data⟩ = .instr (.initX86 (data.extractLsb' 0 32)) ∧
    decode ⟨0x00000021, data⟩ = .instr (.initX64 (data.extractLsb' 0 64))) ∧
  ∀ (s : State) (seed : Word32) (seed64 : Word64),
    exec (.initH32 seed) s = .next { answered s .ok 0 with h32 := ⟨.active, #v[seed], s.h32.tbuf, 0, 0⟩ } ∧
    exec (.initX86 seed) s =
      .next { answered s .ok 0 with x86 := ⟨.active, #v[seed, seed, seed, seed], s.x86.tbuf, 0, 0⟩ } ∧
    exec (.initX64 seed64) s = .next { answered s .ok 0 with x64 := ⟨.active, #v[seed64, seed64], s.x64.tbuf, 0, 0⟩ }

/-- R161-R163 with the layout of R92: in every state STATUS returns STATE in bits 1:0, TLEN in bits 11:8, LEN in bits
127:64 and 0 elsewhere, and writes no state. -/
def Obligations.StatusReportsFields : Prop :=
  (∀ data, decode ⟨0x00000004, data⟩ = .instr .statusH32 ∧ decode ⟨0x00000014, data⟩ = .instr .statusX86 ∧
    decode ⟨0x00000024, data⟩ = .instr .statusX64) ∧
  ∀ s : State,
    exec .statusH32 s = .next (answered s .ok
      (s.h32.len ++ (0 : BitVec 52) ++ s.h32.tlen.setWidth 4 ++ (0 : BitVec 6) ++ s.h32.state.code : BitVec 128)) ∧
    exec .statusX86 s = .next (answered s .ok
      (s.x86.len ++ (0 : BitVec 52) ++ s.x86.tlen ++ (0 : BitVec 6) ++ s.x86.state.code : BitVec 128)) ∧
    exec .statusX64 s = .next (answered s .ok
      (s.x64.len ++ (0 : BitVec 52) ++ s.x64.tlen ++ (0 : BitVec 6) ++ s.x64.state.code : BitVec 128))

/-! ### WRITE -/

/-- WRITE.H32 on an ACTIVE engine (R151, R158): the blocks of tail and chunk joined are mixed in order, the rest is the new
tail, LEN advances by the chunk's length; the engine stays ACTIVE, everything else is kept, and the response is OK. -/
def Obligations.WriteH32Absorbs : Prop :=
  ∀ (s : State) (chunk : List Byte), s.h32.state = .active →
    ∃ e : EngineH32, exec (.writeH32 chunk) s = .next { answered s .ok 0 with h32 := e } ∧
      e.state = .active ∧
      e.h = streamLanes lanesH32 4 s.h32.h (s.h32.tail ++ chunk) ∧
      e.tail = streamTail 4 (s.h32.tail ++ chunk) ∧
      e.tlen.toNat = (s.h32.tlen.toNat + chunk.length) % 4 ∧
      e.len.toNat = (s.h32.len.toNat + chunk.length) % 2 ^ 64

/-- WRITE.X86 on an ACTIVE engine (R151, R159). -/
def Obligations.WriteX86Absorbs : Prop :=
  ∀ (s : State) (chunk : List Byte), s.x86.state = .active →
    ∃ e : EngineX86, exec (.writeX86 chunk) s = .next { answered s .ok 0 with x86 := e } ∧
      e.state = .active ∧
      e.h = streamLanes lanesX86 16 s.x86.h (s.x86.tail ++ chunk) ∧
      e.tail = streamTail 16 (s.x86.tail ++ chunk) ∧
      e.tlen.toNat = (s.x86.tlen.toNat + chunk.length) % 16 ∧
      e.len.toNat = (s.x86.len.toNat + chunk.length) % 2 ^ 64

/-- WRITE.X64 on an ACTIVE engine (R151, R160). -/
def Obligations.WriteX64Absorbs : Prop :=
  ∀ (s : State) (chunk : List Byte), s.x64.state = .active →
    ∃ e : EngineX64, exec (.writeX64 chunk) s = .next { answered s .ok 0 with x64 := e } ∧
      e.state = .active ∧
      e.h = streamLanes lanesX64 16 s.x64.h (s.x64.tail ++ chunk) ∧
      e.tail = streamTail 16 (s.x64.tail ++ chunk) ∧
      e.tlen.toNat = (s.x64.tlen.toNat + chunk.length) % 16 ∧
      e.len.toNat = (s.x64.len.toNat + chunk.length) % 2 ^ 64

/-- R243: WRITE and FINISH on an engine that is not ACTIVE answer SEQERR and change nothing; INIT, STATUS and NOP never
answer SEQERR. -/
def Obligations.SeqErrUnlessActive : Prop :=
  ∀ s : State,
    (s.h32.state ≠ .active → exec .finishH32 s = .next (answered s .seqErr 0) ∧
      ∀ chunk, exec (.writeH32 chunk) s = .next (answered s .seqErr 0)) ∧
    (s.x86.state ≠ .active → exec .finishX86 s = .next (answered s .seqErr 0) ∧
      ∀ chunk, exec (.writeX86 chunk) s = .next (answered s .seqErr 0)) ∧
    (s.x64.state ≠ .active → exec .finishX64 s = .next (answered s .seqErr 0) ∧
      ∀ chunk, exec (.writeX64 chunk) s = .next (answered s .seqErr 0)) ∧
    (∀ (i : Instr) (t : State) (p : Response),
      (∀ chunk, i ≠ .writeH32 chunk ∧ i ≠ .writeX86 chunk ∧ i ≠ .writeX64 chunk) →
      i ≠ .finishH32 → i ≠ .finishX86 → i ≠ .finishX64 →
      exec i s = .next t → t.rsp = some p → p.rstat ≠ .seqErr)

/-- The byte-serial reading that R151 derives is the same absorb: the same STATE, lanes, valid tail, TLEN and LEN, for
every engine, every chunk. -/
def Obligations.ByteSerialSameAsBlockwise : Prop :=
  ∀ chunk : List Byte,
    (∀ e : EngineH32, let a := e.absorb lanesH32 chunk; let b := absorbSerial lanesH32 chunk e
      a.state = b.state ∧ a.h = b.h ∧ a.tail = b.tail ∧ a.tlen = b.tlen ∧ a.len = b.len) ∧
    (∀ e : EngineX86, let a := e.absorb lanesX86 chunk; let b := absorbSerial lanesX86 chunk e
      a.state = b.state ∧ a.h = b.h ∧ a.tail = b.tail ∧ a.tlen = b.tlen ∧ a.len = b.len) ∧
    (∀ e : EngineX64, let a := e.absorb lanesX64 chunk; let b := absorbSerial lanesX64 chunk e
      a.state = b.state ∧ a.h = b.h ∧ a.tail = b.tail ∧ a.tlen = b.tlen ∧ a.len = b.len)

/-- R152: writing any sequence of chunks to an ACTIVE engine leaves the same STATE, lanes, TLEN, LEN and valid tail as
absorbing their concatenation in one piece, and a later FINISH gives the same response. -/
def Obligations.ChunkingInvariance : Prop :=
  ∀ (s : State) (chunks : List (List Byte)),
    (s.h32.state = .active → ∃ t u t' u',
      runCommands (chunks.map .writeH32) s = .next t ∧ exec (.writeH32 chunks.flatten) s = .next u ∧
      t.h32.state = .active ∧ SameEngine t.h32 u.h32 ∧
      exec .finishH32 t = .next t' ∧ exec .finishH32 u = .next u' ∧ t'.rsp = u'.rsp) ∧
    (s.x86.state = .active → ∃ t u t' u',
      runCommands (chunks.map .writeX86) s = .next t ∧ exec (.writeX86 chunks.flatten) s = .next u ∧
      t.x86.state = .active ∧ SameEngine t.x86 u.x86 ∧
      exec .finishX86 t = .next t' ∧ exec .finishX86 u = .next u' ∧ t'.rsp = u'.rsp) ∧
    (s.x64.state = .active → ∃ t u t' u',
      runCommands (chunks.map .writeX64) s = .next t ∧ exec (.writeX64 chunks.flatten) s = .next u ∧
      t.x64.state = .active ∧ SameEngine t.x64 u.x64 ∧
      exec .finishX64 t = .next t' ∧ exec .finishX64 u = .next u' ∧ t'.rsp = u'.rsp)

/-! ### The mixing functions -/

/-- R113: the k-mix of zero is zero. -/
def Obligations.KmixOfZero : Prop := ∀ (w : Nat) (ca cb : BitVec w) (r : Nat), kmix 0 ca r cb = 0

/-- R116 and its example: one block of Hasher32, its bytes little-endian. The constants of R115 are the spec's "[from general
knowledge, not in source]" (log entry 6). -/
def Obligations.BlockMixH32 : Prop :=
  (∀ (h0 : Word32) (b0 b1 b2 b3 : Byte),
    let k : BitVec 32 := ((b3 ++ b2 ++ b1 ++ b0 : BitVec 32) * 0xcc9e2d51).rotateLeft 15 * 0x1b873593
    blockMix lanesH32 #v[h0] [b0, b1, b2, b3] = #v[(h0 ^^^ k).rotateLeft 13 * 5 + 0xe6546b64]) ∧
  kmix (0x61616161 : Word32) 0xcc9e2d51 15 0x1b873593 = 0xf6d8f77f ∧
  blockMix lanesH32 #v[0] [0x61, 0x61, 0x61, 0x61] = #v[0x810465ab]

/-- R118 and its example: one block of Hasher128x86; lanes 0 to 2 add the old neighbour, lane 3 the new H[0]. The constants of
R117 are the spec's "[from general knowledge, not in source]" (log entry 6). -/
def Obligations.BlockMixX86 : Prop :=
  (∀ (h0 h1 h2 h3 : Word32) (b0 b1 b2 b3 b4 b5 b6 b7 b8 b9 b10 b11 b12 b13 b14 b15 : Byte),
    let k0 : BitVec 32 := ((b3 ++ b2 ++ b1 ++ b0 : BitVec 32) * 0x239b961b).rotateLeft 15 * 0xab0e9789
    let k1 : BitVec 32 := ((b7 ++ b6 ++ b5 ++ b4 : BitVec 32) * 0xab0e9789).rotateLeft 16 * 0x38b34ae5
    let k2 : BitVec 32 := ((b11 ++ b10 ++ b9 ++ b8 : BitVec 32) * 0x38b34ae5).rotateLeft 17 * 0xa1e38b93
    let k3 : BitVec 32 := ((b15 ++ b14 ++ b13 ++ b12 : BitVec 32) * 0xa1e38b93).rotateLeft 18 * 0x239b961b
    let n0 := ((h0 ^^^ k0).rotateLeft 19 + h1) * 5 + 0x561ccd1b
    let n1 := ((h1 ^^^ k1).rotateLeft 17 + h2) * 5 + 0x0bcaa747
    let n2 := ((h2 ^^^ k2).rotateLeft 15 + h3) * 5 + 0x96cd1c35
    let n3 := ((h3 ^^^ k3).rotateLeft 13 + n0) * 5 + 0x32ac3b17
    blockMix lanesX86 #v[h0, h1, h2, h3] [b0, b1, b2, b3, b4, b5, b6, b7, b8, b9, b10, b11, b12, b13, b14, b15] =
      #v[n0, n1, n2, n3]) ∧
  blockMix lanesX86 #v[0, 0, 0, 0]
      [0x00, 0x01, 0x02, 0x03, 0x04, 0x05, 0x06, 0x07, 0x08, 0x09, 0x0a, 0x0b, 0x0c, 0x0d, 0x0e, 0x0f] =
    #v[0x4da35dc9, 0xe63b85d2, 0x45e13894, 0xe3e40e30]

/-- R120 and its example: one block of Hasher128x64; lane 0 adds the old H[1], lane 1 the new H[0]. The constants of R119 are
the spec's "[from general knowledge, not in source]" (log entry 6). -/
def Obligations.BlockMixX64 : Prop :=
  (∀ (h0 h1 : Word64) (b0 b1 b2 b3 b4 b5 b6 b7 b8 b9 b10 b11 b12 b13 b14 b15 : Byte),
    let k0 : BitVec 64 := ((b7 ++ b6 ++ b5 ++ b4 ++ b3 ++ b2 ++ b1 ++ b0 : BitVec 64) * 0x87c37b91114253d5).rotateLeft 31
      * 0x4cf5ad432745937f
    let k1 : BitVec 64 := ((b15 ++ b14 ++ b13 ++ b12 ++ b11 ++ b10 ++ b9 ++ b8 : BitVec 64)
      * 0x4cf5ad432745937f).rotateLeft 33 * 0x87c37b91114253d5
    let n0 := ((h0 ^^^ k0).rotateLeft 27 + h1) * 5 + 0x52dce729
    let n1 := ((h1 ^^^ k1).rotateLeft 31 + n0) * 5 + 0x38495ab5
    blockMix lanesX64 #v[h0, h1] [b0, b1, b2, b3, b4, b5, b6, b7, b8, b9, b10, b11, b12, b13, b14, b15] =
      #v[n0, n1]) ∧
  blockMix lanesX64 #v[0, 0]
      [0x00, 0x01, 0x02, 0x03, 0x04, 0x05, 0x06, 0x07, 0x08, 0x09, 0x0a, 0x0b, 0x0c, 0x0d, 0x0e, 0x0f] =
    #v[0xdcac505ea5c458df, 0x72927c4be244042d]

/-- The tail mix (R193-R196): the tail padded with zeros, each sub-word k-mixed with its lane's constants and exclusive-ored
into its lane, with no rotation, no cross-add and no constant; a sub-word with no tail byte contributes nothing. The constants
are the spec's general knowledge (log entry 6). -/
def Obligations.TailMixPadsWithZeros : Prop :=
  ∀ tail : List Byte,
    let word32 (j : Nat) : BitVec 32 := tail.getD (4 * j + 3) 0 ++ tail.getD (4 * j + 2) 0 ++ tail.getD (4 * j + 1) 0 ++
      tail.getD (4 * j) 0
    let word64 (j : Nat) : BitVec 64 := word32 (2 * j + 1) ++ word32 (2 * j)
    (tail.length < 4 → ∀ h0 : Word32, tailMix lanesH32 4 #v[h0] tail =
      #v[h0 ^^^ (word32 0 * 0xcc9e2d51).rotateLeft 15 * 0x1b873593]) ∧
    (tail.length < 16 → ∀ h0 h1 h2 h3 : Word32, tailMix lanesX86 16 #v[h0, h1, h2, h3] tail =
      #v[h0 ^^^ (word32 0 * 0x239b961b).rotateLeft 15 * 0xab0e9789,
         h1 ^^^ (word32 1 * 0xab0e9789).rotateLeft 16 * 0x38b34ae5,
         h2 ^^^ (word32 2 * 0x38b34ae5).rotateLeft 17 * 0xa1e38b93,
         h3 ^^^ (word32 3 * 0xa1e38b93).rotateLeft 18 * 0x239b961b]) ∧
    (tail.length < 16 → ∀ h0 h1 : Word64, tailMix lanesX64 16 #v[h0, h1] tail =
      #v[h0 ^^^ (word64 0 * 0x87c37b91114253d5).rotateLeft 31 * 0x4cf5ad432745937f,
         h1 ^^^ (word64 1 * 0x4cf5ad432745937f).rotateLeft 33 * 0x87c37b91114253d5])

/-- R190 and R191 as number arithmetic: right shifts divide, products are taken modulo 2^W. The shifts and multipliers are the
spec's general knowledge (log entry 6). -/
def Obligations.FmixOnNumbers : Prop :=
  (∀ h : Word32,
    let a := h.toNat ^^^ (h.toNat / 2 ^ 16)
    let b := a * 0x85ebca6b % 2 ^ 32
    let c := b ^^^ (b / 2 ^ 13)
    let d := c * 0xc2b2ae35 % 2 ^ 32
    (fmix32 h).toNat = d ^^^ (d / 2 ^ 16)) ∧
  (∀ k : Word64,
    let a := k.toNat ^^^ (k.toNat / 2 ^ 33)
    let b := a * 0xff51afd7ed558ccd % 2 ^ 64
    let c := b ^^^ (b / 2 ^ 33)
    let d := c * 0xc4ceb9fe1a85ec53 % 2 ^ 64
    (fmix64 k).toNat = d ^^^ (d / 2 ^ 33))

/-- R192, which the spec derives from R190 and R191: both avalanche mixes send 0 to 0 and are bijections (constants: log entry
6). -/
def Obligations.FmixBijective : Prop :=
  fmix32 0 = 0 ∧ fmix64 0 = 0 ∧ Function.Bijective fmix32 ∧ Function.Bijective fmix64

/-- R197: lane j is exclusive-ored with LEN mod 2^W, which is LEN[31:0] for 32-bit lanes and all of LEN for 64-bit lanes; so
the digests of Hasher32 and Hasher128x86 do not depend on LEN[63:32]. -/
def Obligations.LengthFoldModuloWidth : Prop :=
  (∀ (len : BitVec 64) (h0 : Word32), foldLength len #v[h0] = #v[h0 ^^^ len.extractLsb' 0 32]) ∧
  (∀ (len : BitVec 64) (h0 h1 h2 h3 : Word32), foldLength len #v[h0, h1, h2, h3] =
    #v[h0 ^^^ len.extractLsb' 0 32, h1 ^^^ len.extractLsb' 0 32, h2 ^^^ len.extractLsb' 0 32,
      h3 ^^^ len.extractLsb' 0 32]) ∧
  (∀ (len : BitVec 64) (h0 h1 : Word64), foldLength len #v[h0, h1] = #v[h0 ^^^ len, h1 ^^^ len]) ∧
  (∀ (len len' : BitVec 64) (tail : List Byte), len.extractLsb' 0 32 = len'.extractLsb' 0 32 →
    (∀ h, finalH32 h tail len = finalH32 h tail len') ∧ (∀ h, finalX86 h tail len = finalX86 h tail len'))

/-! ### FINISH -/

/-- FINISH.H32 on an ACTIVE engine (R198, R201): tail mix, length fold, avalanche; the lane's 32 bits in RDATA[31:0] and
zeros above; STATE becomes FINALIZED and nothing else of the engine changes. Cross-fold formulas: log entry 6. -/
def Obligations.FinishH32Digest : Prop :=
  ∀ s : State, s.h32.state = .active →
    let m := tailMix lanesH32 4 s.h32.h s.h32.tail
    exec .finishH32 s = .next { answered s .ok
        ((0 : BitVec 96) ++ fmix32 (m[0] ^^^ s.h32.len.extractLsb' 0 32) : BitVec 128) with
      h32 := { s.h32 with state := .finalized } }

/-- FINISH.X86 on an ACTIVE engine (R199, R202): tail mix, length fold, cross-fold, avalanche, cross-fold; lane j in
RDATA[32j+31:32j]; STATE becomes FINALIZED and nothing else of the engine changes. Cross-fold formulas: log entry 6. -/
def Obligations.FinishX86Digest : Prop :=
  ∀ s : State, s.x86.state = .active →
    let m := tailMix lanesX86 16 s.x86.h s.x86.tail
    let n := s.x86.len.extractLsb' 0 32
    let a0 := (m[0] ^^^ n) + (m[1] ^^^ n) + (m[2] ^^^ n) + (m[3] ^^^ n)
    let f0 := fmix32 a0
    let f1 := fmix32 ((m[1] ^^^ n) + a0)
    let f2 := fmix32 ((m[2] ^^^ n) + a0)
    let f3 := fmix32 ((m[3] ^^^ n) + a0)
    let d0 := f0 + f1 + f2 + f3
    exec .finishX86 s = .next { answered s .ok ((f3 + d0) ++ (f2 + d0) ++ (f1 + d0) ++ d0 : BitVec 128) with
      x86 := { s.x86 with state := .finalized } }

/-- FINISH.X64 on an ACTIVE engine (R200, R203): tail mix, length fold with all of LEN, cross-fold, avalanche, cross-fold;
h[0] in RDATA[63:0] and h[1] in RDATA[127:64]; STATE becomes FINALIZED and nothing else of the engine changes. Cross-fold
formulas: log entry 6. -/
def Obligations.FinishX64Digest : Prop :=
  ∀ s : State, s.x64.state = .active →
    let m := tailMix lanesX64 16 s.x64.h s.x64.tail
    let a0 := (m[0] ^^^ s.x64.len) + (m[1] ^^^ s.x64.len)
    let f0 := fmix64 a0
    let f1 := fmix64 ((m[1] ^^^ s.x64.len) + a0)
    let d0 := f0 + f1
    exec .finishX64 s = .next { answered s .ok ((f1 + d0) ++ d0 : BitVec 128) with
      x64 := { s.x64 with state := .finalized } }

/-- R205: from every state, INIT with seed 0 and then FINISH returns an all-zero digest, for every variant. -/
def Obligations.EmptyInputSeedZeroDigest : Prop :=
  ∀ s : State,
    (∃ t, runCommands [.initH32 0, .finishH32] s = .next t ∧ t.rsp = some ⟨.ok, 0⟩) ∧
    (∃ t, runCommands [.initX86 0, .finishX86] s = .next t ∧ t.rsp = some ⟨.ok, 0⟩) ∧
    (∃ t, runCommands [.initX64 0, .finishX64] s = .next t ∧ t.rsp = some ⟨.ok, 0⟩)

/-! ### Whole-machine rules -/

/-- R164: the complete transition table of one engine, NOP and illegal words included; no command returns an engine to UNINIT,
and no step does unless it asserts `rst`. -/
def Obligations.TransitionTable : Prop :=
  (∀ (s : State) (seed : Word32), ∃ t, exec (.initH32 seed) s = .next t ∧ t.h32.state = .active ∧
    t.h32.h = #v[seed] ∧ t.rsp = some ⟨.ok, 0⟩) ∧
  (∀ (s : State) (seed : Word32), ∃ t, exec (.initX86 seed) s = .next t ∧ t.x86.state = .active ∧
    t.x86.h = #v[seed, seed, seed, seed] ∧ t.rsp = some ⟨.ok, 0⟩) ∧
  (∀ (s : State) (seed : Word64), ∃ t, exec (.initX64 seed) s = .next t ∧ t.x64.state = .active ∧
    t.x64.h = #v[seed, seed] ∧ t.rsp = some ⟨.ok, 0⟩) ∧
  (∀ (s : State) (chunk : List Byte),
    ∀ p ∈ [(Instr.writeH32 chunk, fun t : State => t.h32.state), (Instr.writeX86 chunk, fun t : State => t.x86.state),
      (Instr.writeX64 chunk, fun t : State => t.x64.state)],
    ∃ t, exec p.1 s = .next t ∧ p.2 t = p.2 s ∧
      t.rsp = some ⟨if p.2 s = .active then .ok else .seqErr, 0⟩) ∧
  (∀ s : State,
    ∀ p ∈ [(Instr.finishH32, fun t : State => t.h32.state), (Instr.finishX86, fun t : State => t.x86.state),
      (Instr.finishX64, fun t : State => t.x64.state)],
    ∃ t r, exec p.1 s = .next t ∧ p.2 t = (if p.2 s = .active then .finalized else p.2 s) ∧
      t.rsp = some r ∧ r.rstat = (if p.2 s = .active then .ok else .seqErr)) ∧
  (∀ s : State, ∀ i ∈ [Instr.statusH32, Instr.statusX86, Instr.statusX64, Instr.nop],
    ∃ t r, exec i s = .next t ∧ t.h32 = s.h32 ∧ t.x86 = s.x86 ∧ t.x64 = s.x64 ∧ t.rsp = some r ∧ r.rstat = .ok) ∧
  (∀ (s : State) (r : Request), BlockTurn s r → ¬LegalCmd r.cmd → step s = .next (answered s .illegal 0)) ∧
  (∀ (i : Instr) (s t : State), exec i s = .next t →
    (s.h32.state ≠ .uninit → t.h32.state ≠ .uninit) ∧ (s.x86.state ≠ .uninit → t.x86.state ≠ .uninit) ∧
    (s.x64.state ≠ .uninit → t.x64.state ≠ .uninit)) ∧
  (∀ s t : State, step s = .next t → s.host.head? ≠ some .assertRst →
    (s.h32.state ≠ .uninit → t.h32.state ≠ .uninit) ∧ (s.x86.state ≠ .uninit → t.x86.state ≠ .uninit) ∧
    (s.x64.state ≠ .uninit → t.x64.state ≠ .uninit))

/-- The frame of every command (R34, R46): an engine the command does not address is unchanged; lanes change only by INIT
and WRITE, and TBUF, TLEN and LEN likewise, TBUF by WRITE alone; the host's moves, the responses taken and `rst` are
unchanged; the request is answered by exactly one response. -/
def Obligations.CommandFrame : Prop :=
  ∀ (i : Instr) (s t : State), exec i s = .next t →
    (target i ≠ some .h32 → t.h32 = s.h32) ∧ (target i ≠ some .x86 → t.x86 = s.x86) ∧
    (target i ≠ some .x64 → t.x64 = s.x64) ∧
    ((∀ c, i ≠ .writeH32 c ∧ i ≠ .writeX86 c ∧ i ≠ .writeX64 c) →
      t.h32.tbuf = s.h32.tbuf ∧ t.x86.tbuf = s.x86.tbuf ∧ t.x64.tbuf = s.x64.tbuf ∧
      ((∀ seed seed64, i ≠ .initH32 seed ∧ i ≠ .initX86 seed ∧ i ≠ .initX64 seed64) →
        t.h32.h = s.h32.h ∧ t.x86.h = s.x86.h ∧ t.x64.h = s.x64.h ∧
        t.h32.tlen = s.h32.tlen ∧ t.x86.tlen = s.x86.tlen ∧ t.x64.tlen = s.x64.tlen ∧
        t.h32.len = s.h32.len ∧ t.x86.len = s.x86.len ∧ t.x64.len = s.x64.len)) ∧
    t.rst = s.rst ∧ t.host = s.host ∧ t.taken = s.taken ∧ t.inFlight = none ∧ t.rsp.isSome = true

/-- Commands to different engines commute (R252, R277): in either order the engines end the same and each command gets the
same response. -/
def Obligations.EnginesCommute : Prop :=
  ∀ (i j : Instr) (s : State), (target i ≠ target j ∨ target i = none) →
    ∃ a b c d, exec i s = .next a ∧ exec j a = .next b ∧ exec j s = .next c ∧ exec i c = .next d ∧
      b.h32 = d.h32 ∧ b.x86 = d.x86 ∧ b.x64 = d.x64 ∧ b.rsp = c.rsp ∧ a.rsp = d.rsp

/-- R70: STATUS and NOP change no engine; INIT twice is INIT once; an empty WRITE to an ACTIVE engine changes nothing of it;
a WRITE of one byte or more is not idempotent; a second FINISH is refused. -/
def Obligations.IdempotentCommands : Prop :=
  (∀ s : State, ∀ i ∈ [Instr.statusH32, Instr.statusX86, Instr.statusX64, Instr.nop],
    ∃ t, exec i s = .next t ∧ t.h32 = s.h32 ∧ t.x86 = s.x86 ∧ t.x64 = s.x64) ∧
  (∀ (s : State) (seed : Word32) (seed64 : Word64),
    ∀ i ∈ [Instr.initH32 seed, Instr.initX86 seed, Instr.initX64 seed64],
      ∃ t, exec i s = .next t ∧ exec i t = .next t) ∧
  (∀ s : State, (s.h32.state = .active → exec (.writeH32 []) s = .next (answered s .ok 0)) ∧
    (s.x86.state = .active → exec (.writeX86 []) s = .next (answered s .ok 0)) ∧
    (s.x64.state = .active → exec (.writeX64 []) s = .next (answered s .ok 0))) ∧
  (∀ (s : State) (chunk : List Byte), 0 < chunk.length → chunk.length ≤ 16 →
    (s.h32.state = .active → ∃ t u, exec (.writeH32 chunk) s = .next t ∧ exec (.writeH32 chunk) t = .next u ∧
      u.h32 ≠ t.h32) ∧
    (s.x86.state = .active → ∃ t u, exec (.writeX86 chunk) s = .next t ∧ exec (.writeX86 chunk) t = .next u ∧
      u.x86 ≠ t.x86) ∧
    (s.x64.state = .active → ∃ t u, exec (.writeX64 chunk) s = .next t ∧ exec (.writeX64 chunk) t = .next u ∧
      u.x64 ≠ t.x64)) ∧
  (∀ s : State, ∀ i ∈ [Instr.finishH32, Instr.finishX86, Instr.finishX64],
    ∃ t, exec i s = .next t ∧ exec i t = .next (answered t .seqErr 0))

/-- The invariant holds right after reset (R41, R282). -/
def Obligations.ResetStateConsistent : Prop := StateConsistent State.reset

/-- Every step keeps the invariant, from every state that meets it: TLEN = LEN mod BS in each engine, at most one
transaction open, nothing alive while `rst` is asserted (R38, R81, R270). -/
def Obligations.StepKeepsConsistency : Prop := ∀ s t : State, StateConsistent s → step s = .next t → StateConsistent t

/-- Unspecified values cannot be observed (R35, R40, R204, R272): two states that agree on all but the lanes and tail bytes
of an UNINIT engine and the bytes of TBUF at or above TLEN step to two such states, and show the host the same. -/
def Obligations.UnspecifiedValuesUnobservable : Prop :=
  ∀ s t : State, SameVisible s t →
    observe s = observe t ∧ ∃ s' t', step s = .next s' ∧ step t = .next t' ∧ SameVisible s' t'

/-- R272, which the spec derives from R270, R150, R154 and R164: a run after reset shows the same responses and status whatever H
and TBUF hold at reset, for every host. So the values of log entry 1 cannot matter. -/
def Obligations.ResetValuesUnobservable : Prop :=
  ∀ (k : Nat) (moves : List HostMove) (h0 : Vector Word32 1) (h1 : Vector Word32 4) (h2 : Vector Word64 2)
    (b0 : Vector Byte 3) (b1 b2 : Vector Byte 15),
    let s := State.reset.setHost moves
    let t := { s with
      h32 := { s.h32 with h := h0, tbuf := b0 }
      x86 := { s.x86 with h := h1, tbuf := b1 }
      x64 := { s.x64 with h := h2, tbuf := b2 } }
    ∃ u v, core.run k s = .next u ∧ core.run k t = .next v ∧ observe u = observe v

/-! ### The port, reset and runs -/

/-- R270: when `rst` is asserted every engine goes to UNINIT with TLEN = 0 and LEN = 0, a request in flight has no effect
and gets no response, a response not yet taken is dropped, and while `rst` is asserted no request is accepted. That the host's
assertion is the next of its moves, and takes a step of its own, is the model's choice (log entry 3). -/
def Obligations.ResetRule : Prop :=
  (∀ (s : State) (rest : List HostMove), s.host = .assertRst :: rest →
    ∃ t, step s = .next t ∧ t.rst = true ∧ t.host = rest ∧
      t.h32.state = .uninit ∧ t.h32.tlen = 0 ∧ t.h32.len = 0 ∧
      t.x86.state = .uninit ∧ t.x86.tlen = 0 ∧ t.x86.len = 0 ∧
      t.x64.state = .uninit ∧ t.x64.tlen = 0 ∧ t.x64.len = 0 ∧
      t.inFlight = none ∧ t.rsp = none ∧ t.taken = s.taken) ∧
  (∀ (s : State) (r : Request) (rest : List HostMove), s.rst = true → s.host = .request r :: rest → step s = .next s)

/-- After `rst` is released the block accepts a request at once (R271); the host's moves are the model's (log entry 3). -/
def Obligations.ReadyAfterReset : Prop :=
  ∀ (s : State) (r : Request) (rest : List HostMove), s.rst = true → s.inFlight = none → s.rsp = none →
    s.host = .releaseRst :: .request r :: rest →
    ∃ t u, step s = .next t ∧ step t = .next u ∧ u.inFlight = some r ∧ u.host = rest ∧
      u.h32 = s.h32 ∧ u.x86 = s.x86 ∧ u.x64 = s.x64

/-- R275: while a response waits untaken the block accepts no request; taking the response lifts the hold. The host's moves are
the model's (log entry 3). -/
def Obligations.HeldUntilResponseTaken : Prop :=
  ∀ (s : State) (p : Response) (r : Request) (rest : List HostMove),
    s.rst = false → s.inFlight = none → s.rsp = some p →
    (s.host = .request r :: rest → step s = .next s) ∧
    (s.host = .take :: .request r :: rest →
      ∃ t, step s = .next t ∧ t.rsp = none ∧ t.taken = s.taken ++ [p] ∧
        t.h32 = s.h32 ∧ t.x86 = s.x86 ∧ t.x64 = s.x64 ∧
        ∃ u, step t = .next u ∧ u.inFlight = some r ∧ u.host = rest)

/-- R81: a request is accepted only when no earlier request awaits its response and no response waits to be taken; a
request in flight leaves it only with its one response, or by `rst`; and the block starts nothing on its own. The host's moves
are the model's (log entry 3). -/
def Obligations.StrictlySequentialPort : Prop :=
  (∀ (s t : State) (r : Request), step s = .next t → s.inFlight ≠ some r → t.inFlight = some r →
    s.inFlight = none ∧ s.rsp = none ∧ s.rst = false ∧ ∃ rest, s.host = .request r :: rest ∧ t.host = rest) ∧
  (∀ (s t : State) (r : Request), step s = .next t → BlockTurn s r → t.inFlight = none ∧ t.rsp.isSome = true) ∧
  (∀ (s t : State) (r : Request), step s = .next t → s.inFlight = some r → t.inFlight ≠ some r →
    t.inFlight = none ∧ (t.rsp.isSome = true ∨ s.host.head? = some .assertRst)) ∧
  (∀ s : State, s.host = [] → (s.inFlight = none ∨ s.rst = true) → step s = .next s)

/-- R284 with R81: from any state with a free port, a host that sends finitely many requests, legal or not, and takes each
response gets exactly one response for each, and the port ends free. The host's script, and the block answering in one step,
are the model's (log entries 3 and 5). -/
def Obligations.EveryRequestAnswered : Prop :=
  ∀ (s : State) (requests : List Request), Free s → s.host = [] →
    ∃ t, core.run (3 * requests.length) (s.setHost (hostScript requests)) = .next t ∧ Free t ∧ t.host = [] ∧
      ∃ responses, t.taken = s.taken ++ responses ∧ responses.length = requests.length

/-- R231 and R232: from any state with a free port, INIT, WRITEs of any chunks of at most 16 bytes and FINISH, sent over the
port to one engine, answer OK throughout, and the last RDATA is the one-shot function of the seed and the whole input. The
host's script is the model's (log entry 3); the constants are the spec's general knowledge (log entry 6). -/
def Obligations.OneShotDigest : Prop :=
  ∀ (s : State) (chunks : List (List Byte)), Free s → s.host = [] → (∀ c ∈ chunks, c.length ≤ 16) →
    (∀ seed : Word32, ∃ t,
      core.run (3 * (chunks.length + 2)) (s.setHost (hostScript
        ((.initH32 seed :: (chunks.map .writeH32 ++ [.finishH32])).map encode))) = .next t ∧
      t.taken = s.taken ++ List.replicate (chunks.length + 1) ⟨.ok, 0⟩ ++ [⟨.ok, oneShotH32 seed chunks.flatten⟩] ∧
      t.h32.state = .finalized ∧ t.h32.len.toNat = chunks.flatten.length % 2 ^ 64 ∧
      t.h32.tlen.toNat = chunks.flatten.length % 4 ∧ t.x86 = s.x86 ∧ t.x64 = s.x64 ∧ Free t) ∧
    (∀ seed : Word32, ∃ t,
      core.run (3 * (chunks.length + 2)) (s.setHost (hostScript
        ((.initX86 seed :: (chunks.map .writeX86 ++ [.finishX86])).map encode))) = .next t ∧
      t.taken = s.taken ++ List.replicate (chunks.length + 1) ⟨.ok, 0⟩ ++ [⟨.ok, oneShotX86 seed chunks.flatten⟩] ∧
      t.x86.state = .finalized ∧ t.x86.len.toNat = chunks.flatten.length % 2 ^ 64 ∧
      t.x86.tlen.toNat = chunks.flatten.length % 16 ∧ t.h32 = s.h32 ∧ t.x64 = s.x64 ∧ Free t) ∧
    (∀ seed : Word64, ∃ t,
      core.run (3 * (chunks.length + 2)) (s.setHost (hostScript
        ((.initX64 seed :: (chunks.map .writeX64 ++ [.finishX64])).map encode))) = .next t ∧
      t.taken = s.taken ++ List.replicate (chunks.length + 1) ⟨.ok, 0⟩ ++ [⟨.ok, oneShotX64 seed chunks.flatten⟩] ∧
      t.x64.state = .finalized ∧ t.x64.len.toNat = chunks.flatten.length % 2 ^ 64 ∧
      t.x64.tlen.toNat = chunks.flatten.length % 16 ∧ t.h32 = s.h32 ∧ t.x86 = s.x86 ∧ Free t)

/-! ### The assembler's pseudo-instructions -/

/-- The expansion of `absorb.<v>` (R230): ⌈n/16⌉ WRITEs, the i-th with bytes B[16i : min(16i+16, n)], their chunks joined
being B; and once one WRITE is refused the next is too, since no WRITE changes STATE. -/
def Obligations.AbsorbExpansion : Prop :=
  (∀ (v : Variant) (bytes : List Byte),
    ∃ chunks : List (List Byte), asmAbsorb v bytes = chunks.map (asmWrite v) ∧
      chunks.length = (bytes.length + 15) / 16 ∧ chunks.flatten = bytes ∧
      ∀ (i : Nat) (h : i < chunks.length), chunks[i] = (bytes.drop (16 * i)).take 16) ∧
  (∀ (v : Variant) (chunk chunk' : List Byte) (s t u : State) (data : Data),
    exec (asmWrite v chunk) s = .next t → t.rsp = some ⟨.seqErr, data⟩ →
    exec (asmWrite v chunk') t = .next u → u.rsp = some ⟨.seqErr, 0⟩)

/-- What the assembler refuses and emits (R95, R231): an error exactly for a seed too wide, a byte count above 16 or a byte
list of another length than nb; every command it emits is well formed; `hash.<v>` is INIT, the absorb, FINISH. -/
def Obligations.AssemblerErrorsExact : Prop :=
  (∀ seed, (assemble (.init .h32 seed) = none ↔ 2 ^ 32 ≤ seed) ∧ (assemble (.init .x86 seed) = none ↔ 2 ^ 32 ≤ seed) ∧
    (assemble (.init .x64 seed) = none ↔ 2 ^ 64 ≤ seed)) ∧
  (∀ v nb bytes, assemble (.write v nb bytes) = none ↔ 16 < nb ∨ bytes.length ≠ nb) ∧
  (∀ line commands, assemble line = some commands → ∀ i ∈ commands, i.wellFormed = true) ∧
  (∀ v seed bytes init absorb finish, assemble (.init v seed) = some init → assemble (.absorb v bytes) = some absorb →
    assemble (.finish v) = some finish → assemble (.hash v seed bytes) = some (init ++ absorb ++ finish))
end

