-- ==== Sys2Proof/Laws/State.lean ====
section
/-! SUPPORT. What each update of the state and of an engine record leaves in each field: one lemma per field per update, so that no
proof unfolds a record update. -/

namespace Sys2Proof.Machine

@[simp] theorem State.setH32_h32 (e : EngineH32) (s : State) : (s.setH32 e).h32 = e := rfl
@[simp] theorem State.setH32_x86 (e : EngineH32) (s : State) : (s.setH32 e).x86 = s.x86 := rfl
@[simp] theorem State.setH32_x64 (e : EngineH32) (s : State) : (s.setH32 e).x64 = s.x64 := rfl
@[simp] theorem State.setH32_inFlight (e : EngineH32) (s : State) : (s.setH32 e).inFlight = s.inFlight := rfl
@[simp] theorem State.setH32_rsp (e : EngineH32) (s : State) : (s.setH32 e).rsp = s.rsp := rfl
@[simp] theorem State.setH32_rst (e : EngineH32) (s : State) : (s.setH32 e).rst = s.rst := rfl
@[simp] theorem State.setH32_host (e : EngineH32) (s : State) : (s.setH32 e).host = s.host := rfl
@[simp] theorem State.setH32_taken (e : EngineH32) (s : State) : (s.setH32 e).taken = s.taken := rfl

@[simp] theorem State.setX86_h32 (e : EngineX86) (s : State) : (s.setX86 e).h32 = s.h32 := rfl
@[simp] theorem State.setX86_x86 (e : EngineX86) (s : State) : (s.setX86 e).x86 = e := rfl
@[simp] theorem State.setX86_x64 (e : EngineX86) (s : State) : (s.setX86 e).x64 = s.x64 := rfl
@[simp] theorem State.setX86_inFlight (e : EngineX86) (s : State) : (s.setX86 e).inFlight = s.inFlight := rfl
@[simp] theorem State.setX86_rsp (e : EngineX86) (s : State) : (s.setX86 e).rsp = s.rsp := rfl
@[simp] theorem State.setX86_rst (e : EngineX86) (s : State) : (s.setX86 e).rst = s.rst := rfl
@[simp] theorem State.setX86_host (e : EngineX86) (s : State) : (s.setX86 e).host = s.host := rfl
@[simp] theorem State.setX86_taken (e : EngineX86) (s : State) : (s.setX86 e).taken = s.taken := rfl

@[simp] theorem State.setX64_h32 (e : EngineX64) (s : State) : (s.setX64 e).h32 = s.h32 := rfl
@[simp] theorem State.setX64_x86 (e : EngineX64) (s : State) : (s.setX64 e).x86 = s.x86 := rfl
@[simp] theorem State.setX64_x64 (e : EngineX64) (s : State) : (s.setX64 e).x64 = e := rfl
@[simp] theorem State.setX64_inFlight (e : EngineX64) (s : State) : (s.setX64 e).inFlight = s.inFlight := rfl
@[simp] theorem State.setX64_rsp (e : EngineX64) (s : State) : (s.setX64 e).rsp = s.rsp := rfl
@[simp] theorem State.setX64_rst (e : EngineX64) (s : State) : (s.setX64 e).rst = s.rst := rfl
@[simp] theorem State.setX64_host (e : EngineX64) (s : State) : (s.setX64 e).host = s.host := rfl
@[simp] theorem State.setX64_taken (e : EngineX64) (s : State) : (s.setX64 e).taken = s.taken := rfl

@[simp] theorem State.respond_h32 (st : Status) (rd : Data) (s : State) : (s.respond st rd).h32 = s.h32 := rfl
@[simp] theorem State.respond_x86 (st : Status) (rd : Data) (s : State) : (s.respond st rd).x86 = s.x86 := rfl
@[simp] theorem State.respond_x64 (st : Status) (rd : Data) (s : State) : (s.respond st rd).x64 = s.x64 := rfl
@[simp] theorem State.respond_inFlight (st : Status) (rd : Data) (s : State) : (s.respond st rd).inFlight = none := rfl
@[simp] theorem State.respond_rsp (st : Status) (rd : Data) (s : State) : (s.respond st rd).rsp = some ⟨st, rd⟩ := rfl
@[simp] theorem State.respond_rst (st : Status) (rd : Data) (s : State) : (s.respond st rd).rst = s.rst := rfl
@[simp] theorem State.respond_host (st : Status) (rd : Data) (s : State) : (s.respond st rd).host = s.host := rfl
@[simp] theorem State.respond_taken (st : Status) (rd : Data) (s : State) : (s.respond st rd).taken = s.taken := rfl

@[simp] theorem State.refuse_h32 (st : Status) (s : State) : (s.refuse st).h32 = s.h32 := rfl
@[simp] theorem State.refuse_x86 (st : Status) (s : State) : (s.refuse st).x86 = s.x86 := rfl
@[simp] theorem State.refuse_x64 (st : Status) (s : State) : (s.refuse st).x64 = s.x64 := rfl
@[simp] theorem State.refuse_inFlight (st : Status) (s : State) : (s.refuse st).inFlight = none := rfl
@[simp] theorem State.refuse_rsp (st : Status) (s : State) : (s.refuse st).rsp = some ⟨st, 0⟩ := rfl
@[simp] theorem State.refuse_rst (st : Status) (s : State) : (s.refuse st).rst = s.rst := rfl
@[simp] theorem State.refuse_host (st : Status) (s : State) : (s.refuse st).host = s.host := rfl
@[simp] theorem State.refuse_taken (st : Status) (s : State) : (s.refuse st).taken = s.taken := rfl

@[simp] theorem State.assertReset_h32 (s : State) : s.assertReset.h32 = Engine.reset 32 1 3 2 := rfl
@[simp] theorem State.assertReset_x86 (s : State) : s.assertReset.x86 = Engine.reset 32 4 15 4 := rfl
@[simp] theorem State.assertReset_x64 (s : State) : s.assertReset.x64 = Engine.reset 64 2 15 4 := rfl
@[simp] theorem State.assertReset_inFlight (s : State) : s.assertReset.inFlight = none := rfl
@[simp] theorem State.assertReset_rsp (s : State) : s.assertReset.rsp = none := rfl
@[simp] theorem State.assertReset_rst (s : State) : s.assertReset.rst = true := rfl
@[simp] theorem State.assertReset_host (s : State) : s.assertReset.host = s.host := rfl
@[simp] theorem State.assertReset_taken (s : State) : s.assertReset.taken = s.taken := rfl

@[simp] theorem State.accept_h32 (r : Request) (s : State) : (s.accept r).h32 = s.h32 := rfl
@[simp] theorem State.accept_x86 (r : Request) (s : State) : (s.accept r).x86 = s.x86 := rfl
@[simp] theorem State.accept_x64 (r : Request) (s : State) : (s.accept r).x64 = s.x64 := rfl
@[simp] theorem State.accept_inFlight (r : Request) (s : State) : (s.accept r).inFlight = some r := rfl
@[simp] theorem State.accept_rsp (r : Request) (s : State) : (s.accept r).rsp = s.rsp := rfl
@[simp] theorem State.accept_rst (r : Request) (s : State) : (s.accept r).rst = s.rst := rfl
@[simp] theorem State.accept_host (r : Request) (s : State) : (s.accept r).host = s.host := rfl
@[simp] theorem State.accept_taken (r : Request) (s : State) : (s.accept r).taken = s.taken := rfl

@[simp] theorem State.takeResponse_h32 (p : Response) (s : State) : (s.takeResponse p).h32 = s.h32 := rfl
@[simp] theorem State.takeResponse_x86 (p : Response) (s : State) : (s.takeResponse p).x86 = s.x86 := rfl
@[simp] theorem State.takeResponse_x64 (p : Response) (s : State) : (s.takeResponse p).x64 = s.x64 := rfl
@[simp] theorem State.takeResponse_inFlight (p : Response) (s : State) : (s.takeResponse p).inFlight = s.inFlight := rfl
@[simp] theorem State.takeResponse_rsp (p : Response) (s : State) : (s.takeResponse p).rsp = none := rfl
@[simp] theorem State.takeResponse_rst (p : Response) (s : State) : (s.takeResponse p).rst = s.rst := rfl
@[simp] theorem State.takeResponse_host (p : Response) (s : State) : (s.takeResponse p).host = s.host := rfl
@[simp] theorem State.takeResponse_taken (p : Response) (s : State) : (s.takeResponse p).taken = s.taken ++ [p] := rfl

@[simp] theorem State.releaseReset_h32 (s : State) : s.releaseReset.h32 = s.h32 := rfl
@[simp] theorem State.releaseReset_x86 (s : State) : s.releaseReset.x86 = s.x86 := rfl
@[simp] theorem State.releaseReset_x64 (s : State) : s.releaseReset.x64 = s.x64 := rfl
@[simp] theorem State.releaseReset_inFlight (s : State) : s.releaseReset.inFlight = s.inFlight := rfl
@[simp] theorem State.releaseReset_rsp (s : State) : s.releaseReset.rsp = s.rsp := rfl
@[simp] theorem State.releaseReset_rst (s : State) : s.releaseReset.rst = false := rfl
@[simp] theorem State.releaseReset_host (s : State) : s.releaseReset.host = s.host := rfl
@[simp] theorem State.releaseReset_taken (s : State) : s.releaseReset.taken = s.taken := rfl

@[simp] theorem State.setHost_h32 (moves : List HostMove) (s : State) : (s.setHost moves).h32 = s.h32 := rfl
@[simp] theorem State.setHost_x86 (moves : List HostMove) (s : State) : (s.setHost moves).x86 = s.x86 := rfl
@[simp] theorem State.setHost_x64 (moves : List HostMove) (s : State) : (s.setHost moves).x64 = s.x64 := rfl
@[simp] theorem State.setHost_inFlight (moves : List HostMove) (s : State) : (s.setHost moves).inFlight = s.inFlight := rfl
@[simp] theorem State.setHost_rsp (moves : List HostMove) (s : State) : (s.setHost moves).rsp = s.rsp := rfl
@[simp] theorem State.setHost_rst (moves : List HostMove) (s : State) : (s.setHost moves).rst = s.rst := rfl
@[simp] theorem State.setHost_host (moves : List HostMove) (s : State) : (s.setHost moves).host = moves := rfl
@[simp] theorem State.setHost_taken (moves : List HostMove) (s : State) : (s.setHost moves).taken = s.taken := rfl

@[simp] theorem State.loadRequest_h32 (r : Request) (s : State) : (s.loadRequest r).h32 = s.h32 := rfl
@[simp] theorem State.loadRequest_x86 (r : Request) (s : State) : (s.loadRequest r).x86 = s.x86 := rfl
@[simp] theorem State.loadRequest_x64 (r : Request) (s : State) : (s.loadRequest r).x64 = s.x64 := rfl
@[simp] theorem State.loadRequest_inFlight (r : Request) (s : State) : (s.loadRequest r).inFlight = some r := rfl
@[simp] theorem State.loadRequest_rsp (r : Request) (s : State) : (s.loadRequest r).rsp = none := rfl
@[simp] theorem State.loadRequest_rst (r : Request) (s : State) : (s.loadRequest r).rst = false := rfl
@[simp] theorem State.loadRequest_taken (r : Request) (s : State) : (s.loadRequest r).taken = s.taken := rfl

variable {w l cap tw : Nat}

@[simp] theorem Engine.init_state (seed : BitVec w) (e : Engine w l cap tw) : (e.init seed).state = .active := rfl
@[simp] theorem Engine.init_h (seed : BitVec w) (e : Engine w l cap tw) : (e.init seed).h = Vector.replicate l seed := rfl
@[simp] theorem Engine.init_tbuf (seed : BitVec w) (e : Engine w l cap tw) : (e.init seed).tbuf = e.tbuf := rfl
@[simp] theorem Engine.init_tlen (seed : BitVec w) (e : Engine w l cap tw) : (e.init seed).tlen = 0 := rfl
@[simp] theorem Engine.init_len (seed : BitVec w) (e : Engine w l cap tw) : (e.init seed).len = 0 := rfl

@[simp] theorem Engine.finalize_state (e : Engine w l cap tw) : e.finalize.state = .finalized := rfl
@[simp] theorem Engine.finalize_h (e : Engine w l cap tw) : e.finalize.h = e.h := rfl
@[simp] theorem Engine.finalize_tbuf (e : Engine w l cap tw) : e.finalize.tbuf = e.tbuf := rfl
@[simp] theorem Engine.finalize_tlen (e : Engine w l cap tw) : e.finalize.tlen = e.tlen := rfl
@[simp] theorem Engine.finalize_len (e : Engine w l cap tw) : e.finalize.len = e.len := rfl

@[simp] theorem Engine.reset_state : (Engine.reset w l cap tw).state = .uninit := rfl
@[simp] theorem Engine.reset_tlen : (Engine.reset w l cap tw).tlen = 0 := rfl
@[simp] theorem Engine.reset_len : (Engine.reset w l cap tw).len = 0 := rfl

@[simp] theorem Engine.absorb_state (ps : List (LaneParams w l)) (chunk : List Byte) (e : Engine w l cap tw) :
    (e.absorb ps chunk).state = e.state := rfl
@[simp] theorem Engine.absorb_len (ps : List (LaneParams w l)) (chunk : List Byte) (e : Engine w l cap tw) :
    (e.absorb ps chunk).len = e.len + BitVec.ofNat 64 chunk.length := rfl

@[simp] theorem Engine.tail_finalize (e : Engine w l cap tw) : e.finalize.tail = e.tail := rfl
@[simp] theorem Engine.tail_init (seed : BitVec w) (e : Engine w l cap tw) : (e.init seed).tail = [] := by
  simp [Engine.tail]

end Sys2Proof.Machine
end

