-- ==== Sys2Proof/Laws/Ops.lean ====
section
/-! SUPPORT. One lemma for each shared operation, saying once what it does: the loop over blocks, the tail buffer, the
absorb of a chunk, the lifecycle check, and what a command can answer. -/

namespace Sys2Proof.Machine

variable {w l cap tw : Nat}

/-- The loop of R151 is a fold over the blocks in stream order; what is left over is what they do not cover. -/
theorem mixBlocks_eq (ps : List (LaneParams w l)) (bs n : Nat) (h : Vector (BitVec w) l) (bytes : List Byte) :
    mixBlocks ps bs n h bytes =
      ((List.range n).foldl (fun h k => blockMix ps h ((bytes.drop (bs * k)).take bs)) h, bytes.drop (bs * n)) := by
  induction n generalizing h bytes with
  | zero => simp [mixBlocks]
  | succ n ih =>
    simp only [mixBlocks, ih, List.range_succ_eq_map, List.foldl_cons, List.foldl_map, List.drop_drop,
      Nat.mul_succ, Nat.mul_zero, List.drop_zero]
    simp only [Nat.add_comm]

/-- The blocks mixed leave `|bytes| mod bs` bytes. -/
theorem mixBlocks_rest_length (ps : List (LaneParams w l)) (bs : Nat) (h : Vector (BitVec w) l) (bytes : List Byte) :
    (mixBlocks ps bs (bytes.length / bs) h bytes).2.length = bytes.length % bs := by
  rw [mixBlocks_eq, List.length_drop]
  have := Nat.div_add_mod bytes.length bs
  omega

/-- What `storeTail` stores is what is read back. -/
theorem storeTail_take (old : Vector Byte cap) (rest : List Byte) (h : rest.length ≤ cap) :
    (storeTail old rest).toList.take rest.length = rest := by
  apply List.ext_getElem
  · simp [h]
  · intro i h1 h2
    simp [storeTail, h2]

/-- Storing the bytes that already stand there changes nothing. -/
theorem storeTail_self (old : Vector Byte cap) (n : Nat) : storeTail old (old.toList.take n) = old := by
  ext i hi
  by_cases h : i < n <;> simp [storeTail, List.getElem?_take, h]

/-- The tail has TLEN bytes when TLEN's width is that of the block size (R36). -/
theorem Engine.tail_length (hw : 2 ^ tw = cap + 1) (e : Engine w l cap tw) : e.tail.length = e.tlen.toNat := by
  have := e.tlen.isLt
  simp [Engine.tail]
  omega

/-- TLEN after an absorb: the joined length modulo the block size (R151). -/
theorem Engine.absorb_tlen (hw : 2 ^ tw = cap + 1) (ps : List (LaneParams w l)) (chunk : List Byte)
    (e : Engine w l cap tw) :
    (e.absorb ps chunk).tlen.toNat = (e.tlen.toNat + chunk.length) % (cap + 1) := by
  have hr := mixBlocks_rest_length ps (cap + 1) e.h (e.tail ++ chunk)
  simp only [Engine.absorb, BitVec.toNat_ofNat, hw, hr, Nat.mod_mod]
  rw [List.length_append, Engine.tail_length hw]

/-- The lanes after an absorb: every complete block of tail and chunk joined, in order (R151). -/
theorem Engine.absorb_h (ps : List (LaneParams w l)) (chunk : List Byte) (e : Engine w l cap tw) :
    (e.absorb ps chunk).h =
      (List.range ((e.tail ++ chunk).length / (cap + 1))).foldl
        (fun h k => blockMix ps h (((e.tail ++ chunk).drop ((cap + 1) * k)).take (cap + 1))) e.h := by
  simp only [Engine.absorb, mixBlocks_eq]

/-- The tail after an absorb: the bytes no complete block covers (R151). -/
theorem Engine.absorb_tail (hw : 2 ^ tw = cap + 1) (ps : List (LaneParams w l)) (chunk : List Byte)
    (e : Engine w l cap tw) :
    (e.absorb ps chunk).tail =
      (e.tail ++ chunk).drop ((cap + 1) * ((e.tail ++ chunk).length / (cap + 1))) := by
  have hr := mixBlocks_rest_length ps (cap + 1) e.h (e.tail ++ chunk)
  have hlt : (e.tail ++ chunk).length % (cap + 1) < cap + 1 := Nat.mod_lt _ (Nat.succ_pos _)
  have ht : (e.absorb ps chunk).tlen.toNat =
      (mixBlocks ps (cap + 1) ((e.tail ++ chunk).length / (cap + 1)) e.h (e.tail ++ chunk)).2.length := by
    simp only [Engine.absorb, BitVec.toNat_ofNat, hw, hr, Nat.mod_mod]
  unfold Engine.tail at ht ⊢
  rw [ht]
  exact (storeTail_take _ _ (by have := hr; unfold Engine.tail at this hlt; omega)).trans (by rw [mixBlocks_eq])

/-- The lifecycle check has two outcomes (R243). -/
theorem whenActive_of_active {state : Lifecycle} (done s : State) (h : state = .active) :
    whenActive state done s = done := by simp [whenActive, h]

/-- SEQERR when the engine is not ACTIVE (R243). -/
theorem whenActive_of_not_active {state : Lifecycle} (done s : State) (h : state ≠ .active) :
    whenActive state done s = s.refuse .seqErr := by simp [whenActive, h]

/-- Every command answers a next state: no command faults or is refused by the model (R240, R241). -/
theorem exec_next (i : Instr) (s : State) : ∃ t, exec i s = .next t := by
  cases i <;> exact ⟨_, rfl⟩

/-- Every command takes the request off the port, leaves one response there, and leaves the host and `rst` alone (R81). -/
theorem exec_answers (i : Instr) (s : State) : ∃ t p, exec i s = .next t ∧ t.inFlight = none ∧ t.rsp = some p ∧
    t.rst = s.rst ∧ t.host = s.host ∧ t.taken = s.taken := by
  cases i <;>
    simp only [exec, execNop, execInitH32, execInitX86, execInitX64, execWriteH32, execWriteX86, execWriteX64,
      execFinishH32, execFinishX86, execFinishX64, execStatusH32, execStatusX86, execStatusX64, whenActive] <;>
    first
      | exact ⟨_, _, rfl, rfl, rfl, rfl, rfl, rfl⟩
      | (split <;> exact ⟨_, _, rfl, rfl, rfl, rfl, rfl, rfl⟩)

end Sys2Proof.Machine
end

