-- ==== Sys2Proof/Laws/Step.lean ====
section
/-! SUPPORT. What one step can do, said once: the host asserts `rst`, the block executes the request in flight, or it is the
host's turn. -/

namespace Sys2Proof.Machine

/-- With a request in flight, `rst` released and no `rst` about to be asserted, the step is the block's (R280). -/
theorem step_execute {s : State} {r : Request} (hrst : s.rst = false) (hreq : s.inFlight = some r)
    (hhost : s.host.head? ≠ some .assertRst) : step s = execute r s := by
  unfold step turn
  split
  · simp_all
  · simp_all
  · next h1 h2 => exact absurd hreq (h2 r hrst)

/-- Every other step is the host's. -/
theorem step_host {s : State} (h : s.rst = true ∨ s.inFlight = none ∨ s.host.head? = some .assertRst) :
    step s = .next (hostTurn s) := by
  unfold step turn
  split
  · rfl
  · simp_all [List.head?_eq_some_iff]
  · rfl

/-- One step: the block's turn or the host's. -/
theorem step_cases (s : State) :
    (∃ r, s.rst = false ∧ s.inFlight = some r ∧ s.host.head? ≠ some .assertRst ∧ step s = execute r s) ∨
      step s = .next (hostTurn s) := by
  by_cases h : s.rst = true ∨ s.inFlight = none ∨ s.host.head? = some .assertRst
  · exact .inr (step_host h)
  · simp only [not_or, Bool.not_eq_true, Option.ne_none_iff_exists'] at h
    obtain ⟨h1, ⟨r, h2⟩, h3⟩ := h
    exact .inl ⟨r, h1, h2, h3, step_execute h1 h2 h3⟩

/-- A legal request runs its command. -/
theorem execute_instr {r : Request} {i : Instr} (h : decode r = .instr i) (s : State) : execute r s = exec i s := by
  simp [execute, h]

/-- An illegal word is refused with ILLEGAL (R242). -/
theorem execute_illegal {r : Request} {why : IllegalCause} (h : decode r = .illegal why) (s : State) :
    execute r s = .next (s.refuse .illegal) := by
  simp [execute, h]

/-- Executing a request always answers a next state. -/
theorem execute_next (r : Request) (s : State) : ∃ t, execute r s = .next t := by
  unfold execute
  split
  · exact exec_next _ s
  · exact ⟨_, rfl⟩

/-- One more step of a run of any machine. -/
theorem core_run_succ {M : Host.Core} {k : Nat} {s t : M.State} (h : M.step s = .next t) :
    M.run (k + 1) s = M.run k t := by
  simp [Host.Core.run, h]

/-- One more step of a run of this machine. -/
theorem run_succ {k : Nat} {s t : State} (h : step s = .next t) : core.run (k + 1) s = core.run k t :=
  core_run_succ (M := core) h

end Sys2Proof.Machine
end

