-- ==== Sys2Proof/Laws/Decode.lean ====
section
/-! SUPPORT. The byte order, the fields of a command word and the rows of the decoder, each said once. -/

namespace Sys2Proof.Machine

/-- The little-endian value of n bytes is below 256^n (R13). -/
theorem leNat_lt (bytes : List Byte) : leNat bytes < 256 ^ bytes.length := by
  induction bytes with
  | nil => simp [leNat]
  | cons b bs ih =>
    have := b.isLt
    simp only [leNat, List.length_cons, Nat.pow_succ]
    omega

/-- Byte j of the little-endian value is byte j of the sequence (R13). -/
theorem leNat_byte (bytes : List Byte) (j : Nat) (h : j < bytes.length) :
    leNat bytes / 256 ^ j % 256 = bytes[j].toNat := by
  induction bytes generalizing j with
  | nil => simp at h
  | cons b bs ih =>
    have hb := b.isLt
    cases j with
    | zero => simp only [leNat, Nat.pow_zero, Nat.div_one, List.getElem_cons_zero]; omega
    | succ j =>
      have hdiv : (b.toNat + 256 * leNat bs) / 256 = leNat bs := by omega
      rw [leNat, Nat.pow_succ, Nat.mul_comm (256 ^ j) 256, ← Nat.div_div_eq_div_mul, hdiv, List.getElem_cons_succ]
      exact ih j (by simpa using h)

/-- Byte j of at most 16 bytes stands on DATA[8j+7:8j] (R65). -/
theorem packBytes_byte (bytes : List Byte) (hlen : bytes.length ≤ 16) (j : Nat) (h : j < bytes.length) :
    (packBytes bytes).extractLsb' (8 * j) 8 = bytes[j] := by
  apply BitVec.eq_of_toNat_eq
  have hlt : leNat bytes < 2 ^ 128 :=
    lt_of_lt_of_le (leNat_lt bytes) (by simpa using Nat.pow_le_pow_right (n := 256) (by decide) hlen)
  simp only [packBytes, leWord, BitVec.extractLsb'_toNat, BitVec.toNat_ofNat]
  rw [Nat.mod_eq_of_lt hlt, Nat.shiftRight_eq_div_pow, Nat.pow_mul]
  exact leNat_byte bytes j h

/-- A chunk put on the byte lanes is read back (R87, R95). -/
theorem chunkOf_packBytes (chunk : List Byte) (hlen : chunk.length ≤ 16) :
    chunkOf (packBytes chunk) chunk.length = chunk := by
  apply List.ext_getElem
  · simp [chunkOf]
  · intro i h1 h2
    simpa [chunkOf] using packBytes_byte chunk hlen i h2

@[simp] theorem chunkOf_length (data : Data) (nb : Nat) : (chunkOf data nb).length = nb := by simp [chunkOf]

/-- The fields of an encoded word are the fields it was made of (R83). -/
theorem fields_cmdWord (op eng nb : Nat) (hop : op < 16) (heng : eng < 4) (hnb : nb < 32) :
    opField (cmdWord op eng nb) = op ∧ engField (cmdWord op eng nb) = eng ∧ nbField (cmdWord op eng nb) = nb ∧
      rsv0Field (cmdWord op eng nb) = 0 ∧ rsv1Field (cmdWord op eng nb) = 0 := by
  simp only [opField, engField, nbField, rsv0Field, rsv1Field, cmdWord, BitVec.extractLsb'_toNat, BitVec.toNat_ofNat,
    Nat.shiftRight_eq_div_pow]
  omega

/-- A word with zero reserved bits is made of its three fields (R83). -/
theorem cmdWord_fields (cmd : Cmd) (h0 : rsv0Field cmd = 0) (h1 : rsv1Field cmd = 0) :
    cmdWord (opField cmd) (engField cmd) (nbField cmd) = cmd := by
  apply BitVec.eq_of_toNat_eq
  simp only [opField, engField, nbField, rsv0Field, rsv1Field, cmdWord, BitVec.extractLsb'_toNat, BitVec.toNat_ofNat,
    Nat.shiftRight_eq_div_pow] at *
  have := cmd.isLt
  omega

/-- When a row without NB decodes. -/
theorem withoutNb_iff (nb : Nat) (i j : Instr) : withoutNb nb i = .instr j ↔ nb = 0 ∧ i = j := by
  unfold withoutNb
  split <;> simp [*]

/-- When a WRITE row decodes. -/
theorem withChunk_iff (nb : Nat) (data : Data) (row : List Byte → Instr) (j : Instr) :
    withChunk nb data row = .instr j ↔ nb ≤ 16 ∧ row (chunkOf data nb) = j := by
  unfold withChunk Config.maxChunk
  split <;> simp [*]

/-- The rows of R93: which command the fields decode to. -/
theorem decodeRow_iff (op eng nb : Nat) (data : Data) (i : Instr) :
    decodeRow op eng nb data = .instr i ↔
      (op = 0 ∧ eng = 0 ∧ nb = 0 ∧ .nop = i) ∨
      (op = 1 ∧ nb = 0 ∧ ((eng = 0 ∧ .initH32 (seed32 data) = i) ∨ (eng = 1 ∧ .initX86 (seed32 data) = i) ∨
        (eng = 2 ∧ .initX64 (seed64 data) = i))) ∨
      (op = 2 ∧ nb ≤ 16 ∧ ((eng = 0 ∧ .writeH32 (chunkOf data nb) = i) ∨ (eng = 1 ∧ .writeX86 (chunkOf data nb) = i) ∨
        (eng = 2 ∧ .writeX64 (chunkOf data nb) = i))) ∨
      (op = 3 ∧ nb = 0 ∧ ((eng = 0 ∧ .finishH32 = i) ∨ (eng = 1 ∧ .finishX86 = i) ∨ (eng = 2 ∧ .finishX64 = i))) ∨
      (op = 4 ∧ nb = 0 ∧ ((eng = 0 ∧ .statusH32 = i) ∨ (eng = 1 ∧ .statusX86 = i) ∨ (eng = 2 ∧ .statusX64 = i))) := by
  unfold decodeRow
  split <;> simp_all [withoutNb_iff, withChunk_iff]

/-- The decoder: zero reserved bits, then a row. -/
theorem decode_iff (r : Request) (i : Instr) :
    decode r = .instr i ↔ rsv1Field r.cmd = 0 ∧ rsv0Field r.cmd = 0 ∧
      decodeRow (opField r.cmd) (engField r.cmd) (nbField r.cmd) r.data = .instr i := by
  unfold decode
  split <;> simp_all

/-- The decoder on an encoded word is its row. -/
theorem decode_cmdWord (op eng nb : Nat) (data : Data) (hop : op < 16) (heng : eng < 4) (hnb : nb < 32) :
    decode ⟨cmdWord op eng nb, data⟩ = decodeRow op eng nb data := by
  obtain ⟨h1, h2, h3, h4, h5⟩ := fields_cmdWord op eng nb hop heng hnb
  simp only [decode, h1, h2, h3, h4, h5, and_self, if_true]

end Sys2Proof.Machine
end

