-- ==== Sys2Proof/Tests/Slice0.lean ====
section
/-! SUPPORT. The model's own tests. Expected values are the spec's: words from `30_encoding.md` R83, R86, R93, R94 and the
table of `95_test_vectors.md` 2.3, values from `95_test_vectors.md`, the examples of the rules. Then a witness for the
hypotheses of each statement that has some, named after it. -/

namespace Sys2Proof.Tests

open Sys2Proof Sys2Proof.Machine Sys2Proof.Safety

/-! ### Well-formedness: an ill-formed term for each check -/

theorem test_write_h32_too_long : (Instr.writeH32 (List.replicate 17 0)).wellFormed = false := by decide
theorem test_write_x86_too_long : (Instr.writeX86 (List.replicate 17 0)).wellFormed = false := by decide
theorem test_write_x64_too_long : (Instr.writeX64 (List.replicate 17 0)).wellFormed = false := by decide
theorem test_write_sixteen_bytes : (Instr.writeX64 (List.replicate 16 0)).wellFormed = true := by decide

/-! ### Decoding: every constructor by a word written out as RSV1 (19), NB (5), RSV0 (2), ENG (2), OP (4) -/

theorem test_decode_nop : decode ⟨0b0000000000000000000_00000_00_00_0000, 1⟩ = .instr .nop := by decide
theorem test_decode_init_h32 :
    decode ⟨0b0000000000000000000_00000_00_00_0001, 0x1_0000_0001⟩ = .instr (.initH32 1) := by decide
theorem test_decode_init_x86 :
    decode ⟨0b0000000000000000000_00000_00_01_0001, 0x9747b28c⟩ = .instr (.initX86 0x9747b28c) := by decide
theorem test_decode_init_x64 :
    decode ⟨0b0000000000000000000_00000_00_10_0001, 0x1_0000_0000_0000_0002⟩ = .instr (.initX64 2) := by decide
theorem test_decode_write_h32 :
    decode ⟨0b0000000000000000000_00100_00_00_0010, 0xff64636261⟩ = .instr (.writeH32 [0x61, 0x62, 0x63, 0x64]) := by
  decide
theorem test_decode_write_h32_empty :
    decode ⟨0b0000000000000000000_00000_00_00_0010, 0x61⟩ = .instr (.writeH32 []) := by decide
theorem test_decode_write_x86 :
    decode ⟨0b0000000000000000000_10000_00_01_0010, 0x737271706f6e6d6c6b6a696867666564⟩ =
      .instr (.writeX86 [0x64, 0x65, 0x66, 0x67, 0x68, 0x69, 0x6a, 0x6b, 0x6c, 0x6d, 0x6e, 0x6f, 0x70, 0x71, 0x72,
        0x73]) := by decide
theorem test_decode_write_x64 :
    decode ⟨0b0000000000000000000_00101_00_10_0010, 0x6f6c6c6568⟩ =
      .instr (.writeX64 [0x68, 0x65, 0x6c, 0x6c, 0x6f]) := by decide
theorem test_decode_finish_h32 : decode ⟨0b0000000000000000000_00000_00_00_0011, 0⟩ = .instr .finishH32 := by decide
theorem test_decode_finish_x86 : decode ⟨0b0000000000000000000_00000_00_01_0011, 0⟩ = .instr .finishX86 := by decide
theorem test_decode_finish_x64 : decode ⟨0b0000000000000000000_00000_00_10_0011, 0⟩ = .instr .finishX64 := by decide
theorem test_decode_status_h32 : decode ⟨0b0000000000000000000_00000_00_00_0100, 0⟩ = .instr .statusH32 := by decide
theorem test_decode_status_x86 : decode ⟨0b0000000000000000000_00000_00_01_0100, 0⟩ = .instr .statusX86 := by decide
theorem test_decode_status_x64 : decode ⟨0b0000000000000000000_00000_00_10_0100, 0⟩ = .instr .statusX64 := by decide

/-- The six causes of R94, at the boundary values of the table of `95_test_vectors.md` 2.3. -/
theorem test_decode_illegal :
    decode ⟨0x00001102, 0⟩ = .illegal .chunkTooLong ∧ decode ⟨0x00001f22, 0⟩ = .illegal .chunkTooLong ∧
    decode ⟨0x00000031, 0⟩ = .illegal .reservedEng ∧ decode ⟨0x00000010, 0⟩ = .illegal .nopEng ∧
    decode ⟨0x00000005, 0⟩ = .illegal .reservedOp ∧ decode ⟨0x0000000f, 0⟩ = .illegal .reservedOp ∧
    decode ⟨0x00000041, 0⟩ = .illegal .reservedBits ∧ decode ⟨0x00000081, 0⟩ = .illegal .reservedBits ∧
    decode ⟨0x00002002, 0⟩ = .illegal .reservedBits ∧ decode ⟨0x80000001, 0⟩ = .illegal .reservedBits ∧
    decode ⟨0x00000101, 0⟩ = .illegal .strayNb ∧ decode ⟨0x00000103, 0⟩ = .illegal .strayNb ∧
    decode ⟨0x00000100, 0⟩ = .illegal .strayNb ∧ decode ⟨0xffffffff, 0⟩ = .illegal .reservedBits := by decide

/-- The example of R95: `write.h32 4, 61 61 61 61`. -/
theorem test_assemble_write :
    (assemble (.write .h32 4 [0x61, 0x61, 0x61, 0x61])).map (List.map encode) = some [⟨0x00000402, 0x61616161⟩] := by
  decide

/-! ### Steps on small states -/

/-- E[0] created with seed 0 and nothing written. -/
def startedH32 : State := { State.reset with h32 := ⟨.active, #v[0], #v[0, 0, 0], 0, 0⟩ }
/-- E[1] created with seed 0 and nothing written. -/
def startedX86 : State :=
  { State.reset with x86 := ⟨.active, #v[0, 0, 0, 0], #v[0, 0, 0, 0, 0, 0, 0, 0, 0, 0, 0, 0, 0, 0, 0], 0, 0⟩ }
/-- E[2] created with seed 0 and nothing written. -/
def startedX64 : State :=
  { State.reset with x64 := ⟨.active, #v[0, 0], #v[0, 0, 0, 0, 0, 0, 0, 0, 0, 0, 0, 0, 0, 0, 0], 0, 0⟩ }

/-- The bytes 00 01 … 0f of `95_test_vectors.md` 2.2. -/
def countingBlock : List Byte :=
  [0x00, 0x01, 0x02, 0x03, 0x04, 0x05, 0x06, 0x07, 0x08, 0x09, 0x0a, 0x0b, 0x0c, 0x0d, 0x0e, 0x0f]

/-- The next state of an outcome. -/
def nextState (o : Host.Outcome State Fault Refusal) : Option State :=
  match o with
  | .next s => some s
  | .fault _ => none
  | .refused _ => none

/-- The response of the next state. -/
def response (o : Host.Outcome State Fault Refusal) : Option Response := (nextState o).bind State.rsp

/-- The command with this word and operand, sent first after reset. -/
def firstAfterReset (cmd : Cmd) (data : Data) : Option Response :=
  response (step { State.reset with inFlight := some ⟨cmd, data⟩ })

/-- The statuses of `95_test_vectors.md` 2.3. -/
theorem test_first_after_reset_ok :
    firstAfterReset 0x00000000 0 = some ⟨.ok, 0⟩ ∧ firstAfterReset 0x00000001 0 = some ⟨.ok, 0⟩ ∧
    firstAfterReset 0x00000011 0 = some ⟨.ok, 0⟩ ∧ firstAfterReset 0x00000021 0 = some ⟨.ok, 0⟩ ∧
    firstAfterReset 0x00000024 0 = some ⟨.ok, 0⟩ := by decide
theorem test_first_after_reset_refused :
    firstAfterReset 0x00000002 0 = some ⟨.seqErr, 0⟩ ∧ firstAfterReset 0x00001002 0 = some ⟨.seqErr, 0⟩ ∧
    firstAfterReset 0x00000003 0 = some ⟨.seqErr, 0⟩ ∧ firstAfterReset 0x00001102 0 = some ⟨.illegal, 0⟩ ∧
    firstAfterReset 0x00000031 0 = some ⟨.illegal, 0⟩ := by decide

/-- A word placed by its bits is the first instruction after reset. -/
theorem test_placed_word : response (step (State.reset.withFetchWord 32 0x00000014)) = some ⟨.ok, 0⟩ := by decide

/-- INIT.X86 loads the seed into all four lanes (R156). -/
theorem test_init_x86 : (nextState (exec (.initX86 0x9747b28c) State.reset)).map (fun s => (s.x86.state, s.x86.h)) =
    some (.active, #v[0x9747b28c, 0x9747b28c, 0x9747b28c, 0x9747b28c]) := by decide
theorem test_init_x64_wide_seed : (nextState (exec (.initX64 0x100000001) startedX64)).map (fun s => s.x64.h) =
    some #v[0x100000001, 0x100000001] := by decide
theorem test_init_h32 : (nextState (exec (.initH32 7) startedH32)).map (fun s => s.h32) =
    some ⟨.active, #v[7], #v[0, 0, 0], 0, 0⟩ := by decide

/-- P1 of `95_test_vectors.md`: one block, and its digest. -/
theorem test_write_h32_block : (nextState (exec (.writeH32 [0x61, 0x61, 0x61, 0x61]) startedH32)).map
    (fun s => (s.h32.h, s.h32.tlen, s.h32.len)) = some (#v[0x810465ab], 0, 4) := by decide
theorem test_finish_h32 :
    response (exec .finishH32 { State.reset with h32 := ⟨.active, #v[0x810465ab], #v[0, 0, 0], 0, 4⟩ }) =
      some ⟨.ok, 0x7eeed987⟩ := by decide

/-- A chunk that completes a block held in part in TBUF: 61 62 of "abcd" in the tail, then 63 64 65. -/
theorem test_write_h32_straddles :
    (nextState (exec (.writeH32 [0x63, 0x64, 0x65])
      { State.reset with h32 := ⟨.active, #v[0x9747b28c], #v[0x61, 0x62, 0], 2, 2⟩ })).map
      (fun s => (s.h32.h, s.h32.tail, s.h32.len)) = some (#v[0x1719cb66], [0x65], 5) := by decide

/-- P4 of `95_test_vectors.md`: the digest of "abc", all of it in the tail. -/
theorem test_finish_h32_tail :
    response (exec .finishH32 { State.reset with h32 := ⟨.active, #v[0], #v[0x61, 0x62, 0x63], 3, 3⟩ }) =
      some ⟨.ok, 0xb3dd93fa⟩ := by decide

/-- `95_test_vectors.md` 2.2, and the digest of its 2.5 for n = 16. -/
theorem test_write_x86_block : (nextState (exec (.writeX86 countingBlock) startedX86)).map (fun s => s.x86.h) =
    some #v[0x4da35dc9, 0xe63b85d2, 0x45e13894, 0xe3e40e30] := by decide
theorem test_finish_x86 :
    response (exec .finishX86 { startedX86 with x86 := { startedX86.x86 with
      h := #v[0x4da35dc9, 0xe63b85d2, 0x45e13894, 0xe3e40e30], len := 16 } }) =
      some ⟨.ok, 0x89a55befea538074559180ee6c25c825⟩ := by decide

/-- P3 of `95_test_vectors.md`: lanes of the end state, tail 71 72 73, LEN 19. -/
theorem test_finish_x86_tail :
    response (exec .finishX86 { State.reset with x86 := ⟨.active, #v[0x408f14a7, 0x2cd2884c, 0xd74b8a7e, 0xacc05cf3],
      #v[0x71, 0x72, 0x73, 0, 0, 0, 0, 0, 0, 0, 0, 0, 0, 0, 0], 3, 19⟩ }) =
      some ⟨.ok, 0x78b2a74c6b9ae2830ffa269ea3f2f8bd⟩ := by decide

/-- `95_test_vectors.md` 2.2, and the digest of its 2.5 for n = 16. -/
theorem test_write_x64_block : (nextState (exec (.writeX64 countingBlock) startedX64)).map (fun s => s.x64.h) =
    some #v[0xdcac505ea5c458df, 0x72927c4be244042d] := by decide
theorem test_finish_x64 :
    response (exec .finishX64 { startedX64 with x64 := { startedX64.x64 with
      h := #v[0xdcac505ea5c458df, 0x72927c4be244042d], len := 16 } }) =
      some ⟨.ok, 0xab906456762fe845444924b591903f30⟩ := by decide

/-- P2 of `95_test_vectors.md`: lanes and tail of the end state, LEN 43; the published digest. -/
theorem test_finish_x64_tail :
    response (exec .finishX64 { State.reset with x64 := ⟨.active, #v[0xef7ef36e84b36d66, 0x20112c4dac59411d],
      #v[0x68, 0x65, 0x20, 0x6c, 0x61, 0x7a, 0x79, 0x20, 0x64, 0x6f, 0x67, 0, 0, 0, 0], 11, 43⟩ }) =
      some ⟨.ok, 0x7a433ca9c49a9347e34bbc7bbc071b6c⟩ := by decide

/-- The status words of P1, P3 and P2. -/
theorem test_status_h32 :
    response (exec .statusH32 { State.reset with h32 := ⟨.finalized, #v[0x810465ab], #v[0, 0, 0], 0, 4⟩ }) =
      some ⟨.ok, 0x00000000000000040000000000000002⟩ := by decide
theorem test_status_x86 :
    response (exec .statusX86 { startedX86 with x86 := { startedX86.x86 with tlen := 3, len := 19 } }) =
      some ⟨.ok, 0x00000000000000130000000000000301⟩ := by decide
theorem test_status_x64 :
    response (exec .statusX64 { startedX64 with x64 := { startedX64.x64 with tlen := 11, len := 43 } }) =
      some ⟨.ok, 0x000000000000002b0000000000000b01⟩ := by decide

/-- LEN wraps at 2^64 (R9, R37). -/
theorem test_len_wraps :
    (nextState (exec (.writeH32 [1]) { startedH32 with h32 := { startedH32.h32 with tlen := 3, len := -1 } })).map
      (fun s => (s.h32.tlen, s.h32.len)) = some (0, 0) := by decide

/-- NOP keeps every engine (R153); P4's refused write answers SEQERR. -/
theorem test_nop : (nextState (exec .nop startedX64)).map (fun s => s.x64) = some startedX64.x64 := by decide
theorem test_write_before_init : response (exec (.writeX86 [0x61]) State.reset) = some ⟨.seqErr, 0⟩ := by decide

/-- Asserting `rst` drops a waiting response and the engines (R270). -/
theorem test_reset_drops_response :
    (nextState (step { startedH32 with rsp := some ⟨.ok, 0⟩, host := [.assertRst] })).map
      (fun s => (s.h32.state, s.rsp, s.rst)) = some (.uninit, none, true) := by decide

/-! ### Primitives, `95_test_vectors.md` 2.1 and 2.2 -/

theorem test_rotl : rotl (0x12345678 : Word32) 15 = 0x2b3c091a ∧
    rotl (0x0123456789abcdef : Word64) 33 = 0x13579bde02468acf := by decide
theorem test_fmix32 : fmix32 1 = 0x514e28b7 ∧ fmix32 0x80000000 = 0x6d3c65a0 := by decide
theorem test_fmix64 : fmix64 1 = 0xb456bcfc34c2cb2c ∧ fmix64 0x8000000000000000 = 0x8f780810af31a493 := by decide
theorem test_kmix32 : (lanesX86.map fun p => kmix 1 p.ca p.r1 p.cb) =
    [0x9378f1b5, 0x04620f86, 0xa2437f92, 0x62af7ffa] := by decide
theorem test_kmix64 : (lanesX64.map fun p => kmix 1 p.ca p.r1 p.cb) = [0x34e09d0b6bdefe38, 0x4e26f5539bb7c37e] := by
  decide
theorem test_sequential_lanes : blockMix lanesX86 #v[1, 1, 1, 1] (List.replicate 16 0) =
    #v[0x5644cd20, 0x0bd4a74c, 0x96cf9c3a, 0xe204dcb7] := by decide

/-- The examples of R194, R195 and R196: the tails "abc" and "abcde" from zero lanes. -/
theorem test_tail_mix : tailMix lanesH32 4 #v[0] [0x61, 0x62, 0x63] = #v[0xa7349db7] ∧
    tailMix lanesX86 16 #v[0, 0, 0, 0] [0x61, 0x62, 0x63, 0x64, 0x65] = #v[0x7255abd5, 0x321362a5, 0, 0] ∧
    tailMix lanesX64 16 #v[0, 0] [0x61, 0x62, 0x63, 0x64, 0x65] = #v[0x2e5bc4e91f2c3e80, 0] := by decide

/-- The sub-words of R118 and R120. -/
theorem test_sub_words :
    [0, 1, 2, 3].map (subWord 32 countingBlock) = [0x03020100, 0x07060504, 0x0b0a0908, 0x0f0e0d0c] ∧
    [0, 1].map (subWord 64 countingBlock) = [0x0706050403020100, 0x0f0e0d0c0b0a0908] := by decide

/-! ### Witnesses: a state and operands that meet the hypotheses of each statement that has some -/

/-- A request in flight with `rst` released, on any state. -/
def sent (s : State) (cmd : Cmd) (data : Data) : State := { s with inFlight := some ⟨cmd, data⟩ }

theorem witness_BlockTurn : BlockTurn (sent startedH32 0x00000402 0x61616161) ⟨0x00000402, 0x61616161⟩ :=
  ⟨rfl, rfl, by decide⟩
theorem witness_DecodeOfEncode : (Instr.writeX64 countingBlock).wellFormed = true := by decide
theorem witness_DecodedCommandEncodesToItsWord :
    decode ⟨0x00001022, 0⟩ = .instr (.writeX64 (List.replicate 16 0)) := by decide
theorem witness_LegalExactlyWhenDecoded :
    ¬LegalCmd 0x00001102 ∧ LegalCmd 0x00001002 ∧ BlockTurn (sent State.reset 0x00001102 0) ⟨0x00001102, 0⟩ :=
  ⟨by unfold LegalCmd; decide, by unfold LegalCmd; decide, rfl, rfl, by decide⟩
/-- Each of the seven clauses at its boundary value. -/
theorem witness_ReservedEncodingsRefused :
    5 ≤ ((0x00000005 : Cmd).extractLsb' 0 4).toNat ∧ (0x00000031 : Cmd).extractLsb' 4 2 = 3 ∧
    (0x00000041 : Cmd).extractLsb' 6 2 ≠ 0 ∧ (0x00002002 : Cmd).extractLsb' 13 19 ≠ 0 ∧
    (16 < ((0x00001102 : Cmd).extractLsb' 8 5).toNat ∧ (0x00001102 : Cmd).extractLsb' 0 4 = 2) ∧
    ((0x00000101 : Cmd).extractLsb' 8 5 ≠ 0 ∧ (0x00000101 : Cmd).extractLsb' 0 4 ≠ 2) ∧
    ((0x00000010 : Cmd).extractLsb' 4 2 ≠ 0 ∧ (0x00000010 : Cmd).extractLsb' 0 4 = 0) ∧
    BlockTurn (sent State.reset 0x00000005 0) ⟨0x00000005, 0⟩ := ⟨by decide, by decide, by decide, by decide,
      by decide, by decide, by decide, rfl, rfl, by decide⟩
theorem witness_EncodedChunkOnByteLanes :
    countingBlock.length ≤ 16 ∧ 15 < countingBlock.length ∧ 8 * ([0x61] : List Byte).length ≤ 8 := by decide
theorem witness_StepRunsDecodedCommand :
    BlockTurn (sent State.reset 0x00000024 0) ⟨0x00000024, 0⟩ ∧ decode ⟨0x00000024, 0⟩ = .instr .statusX64 :=
  ⟨⟨rfl, rfl, by decide⟩, by decide⟩
theorem witness_StepRunsPlacedWord : decodeTableWord 160 (0x00000402 + 0x61616161 * 2 ^ 32) =
    some (.writeH32 [0x61, 0x61, 0x61, 0x61]) := by decide
/-- All three statuses arise. -/
theorem witness_ResponseStatusExact :
    response (step (sent startedH32 0x00000402 0x61616161)) = some ⟨.ok, 0⟩ ∧
    response (step (sent State.reset 0x00000402 0x61616161)) = some ⟨.seqErr, 0⟩ ∧
    response (step (sent State.reset 0x00000032 0)) = some ⟨.illegal, 0⟩ := by decide
theorem witness_RefusalWritesNothing : ∃ t, BlockTurn (sent State.reset 0x00000003 0) ⟨0x00000003, 0⟩ ∧
    step (sent State.reset 0x00000003 0) = .next t ∧ t.rsp = some ⟨.seqErr, 0⟩ ∧ Status.seqErr ≠ .ok :=
  ⟨_, ⟨rfl, rfl, by decide⟩, rfl, rfl, by decide⟩
theorem witness_NopRespondsOk : (0x00000010 : Cmd).extractLsb' 0 4 = 0 ∧ (0x00000010 : Cmd) ≠ 0x00000000 := by decide
theorem witness_WriteH32Absorbs : startedH32.h32.state = .active := rfl
theorem witness_WriteX86Absorbs : startedX86.x86.state = .active := rfl
theorem witness_WriteX64Absorbs : startedX64.x64.state = .active := rfl
/-- Not ACTIVE: UNINIT and FINALIZED; and a command the last clause covers, with its response. -/
theorem witness_SeqErrUnlessActive :
    State.reset.h32.state ≠ .active ∧ State.reset.x86.state ≠ .active ∧ State.reset.x64.state ≠ .active ∧
    (startedH32.h32.finalize).state ≠ .active ∧
    ∃ t, exec .statusX86 State.reset = .next t ∧ t.rsp = some ⟨.ok, 0⟩ :=
  ⟨by decide, by decide, by decide, by decide, _, rfl, by decide⟩
theorem witness_ChunkingInvariance :
    startedH32.h32.state = .active ∧ startedX86.x86.state = .active ∧ startedX64.x64.state = .active := by decide
theorem witness_TailMixPadsWithZeros :
    ([0x21, 0x43, 0x65] : List Byte).length < 4 ∧ (countingBlock.take 15).length < 16 := by decide
theorem witness_LengthFoldModuloWidth :
    (0x100000000 : BitVec 64).extractLsb' 0 32 = (0 : BitVec 64).extractLsb' 0 32 := by decide
theorem witness_FinishH32Digest : (startedH32.h32.absorb lanesH32 [0x61]).state = .active := rfl
theorem witness_FinishX86Digest : (startedX86.x86.absorb lanesX86 [0x61]).state = .active := rfl
theorem witness_FinishX64Digest : (startedX64.x64.absorb lanesX64 [0x61]).state = .active := rfl
/-- An illegal word in flight; and a command on an engine that is not UNINIT, for each engine. -/
theorem witness_TransitionTable :
    (BlockTurn (sent startedX86 0x00000015 0) ⟨0x00000015, 0⟩ ∧ ¬LegalCmd 0x00000015) ∧
    (∃ t, exec .finishH32 startedH32 = .next t) ∧ startedH32.h32.state ≠ .uninit ∧
    (∃ t, exec .finishX86 startedX86 = .next t) ∧ startedX86.x86.state ≠ .uninit ∧
    (∃ t, exec .finishX64 startedX64 = .next t) ∧ startedX64.x64.state ≠ .uninit ∧
    (∃ t, step startedX64 = .next t) ∧ startedX64.host.head? ≠ some .assertRst :=
  ⟨⟨⟨rfl, rfl, by decide⟩, by unfold LegalCmd; decide⟩, ⟨_, rfl⟩, by decide, ⟨_, rfl⟩, by decide, ⟨_, rfl⟩, by decide,
    ⟨_, rfl⟩, by decide⟩
/-- A command to E[0], and STATUS, which meets every inner hypothesis of the frame. -/
theorem witness_CommandFrame :
    (∃ t, exec (.writeH32 [0x61]) startedH32 = .next t) ∧ target (.writeH32 [0x61]) ≠ some .x86 ∧
    target (.writeH32 [0x61]) ≠ some .x64 ∧ target .nop ≠ some .h32 ∧
    (∃ t, exec .statusX86 startedX86 = .next t) ∧
    (∀ c, Instr.statusX86 ≠ .writeH32 c ∧ Instr.statusX86 ≠ .writeX86 c ∧ Instr.statusX86 ≠ .writeX64 c) ∧
    (∀ seed seed64, Instr.statusX86 ≠ .initH32 seed ∧ Instr.statusX86 ≠ .initX86 seed ∧
      Instr.statusX86 ≠ .initX64 seed64) :=
  ⟨⟨_, rfl⟩, by decide, by decide, by decide, ⟨_, rfl⟩, by simp, by simp⟩
theorem witness_EnginesCommute :
    target (.writeH32 [0x61]) ≠ target (.finishX64) ∧ target Instr.nop = none := by decide
theorem witness_IdempotentCommands :
    startedH32.h32.state = .active ∧ startedX86.x86.state = .active ∧ startedX64.x64.state = .active ∧
    0 < ([0x61] : List Byte).length ∧ countingBlock.length ≤ 16 := by decide
theorem reset_engine_consistent (w l cap tw : Nat) : EngineConsistent (Engine.reset w l cap tw) :=
  ⟨by simp [Engine.reset], fun _ => rfl⟩
/-- A consistent state from which a step goes on. -/
theorem witness_StepKeepsConsistency :
    StateConsistent (sent State.reset 0x00000001 0) ∧ ∃ t, step (sent State.reset 0x00000001 0) = .next t :=
  ⟨⟨reset_engine_consistent 32 1 3 2, reset_engine_consistent 32 4 15 4, reset_engine_consistent 64 2 15 4, .inr rfl,
    fun h => Bool.noConfusion h⟩, _, rfl⟩
/-- Two different states that no host can tell apart: another lane in an UNINIT engine, another byte above TLEN. -/
theorem witness_UnspecifiedValuesUnobservable :
    let s := startedX64
    let t := { s with
      h32 := { s.h32 with h := #v[0xffffffff] }
      x64 := { s.x64 with tbuf := #v[7, 0, 0, 0, 0, 0, 0, 0, 0, 0, 0, 0, 0, 0, 0] } }
    SameVisible s t ∧ s ≠ t :=
  ⟨⟨⟨rfl, rfl, rfl, fun h => absurd rfl h⟩, ⟨rfl, rfl, rfl, fun _ => ⟨rfl, rfl⟩⟩, ⟨rfl, rfl, rfl, fun _ => ⟨rfl, rfl⟩⟩,
    rfl, rfl, rfl, rfl, rfl⟩, by decide⟩
theorem witness_ResetRule :
    (sent { startedH32 with host := [.assertRst] } 0x00000003 0).host = .assertRst :: [] ∧
    ({ State.reset with rst := true, host := [.request ⟨0, 0⟩] } : State).rst = true := ⟨rfl, rfl⟩
theorem witness_ReadyAfterReset :
    let s := { State.reset with rst := true, host := [.releaseRst, .request ⟨0, 0⟩] }
    s.rst = true ∧ s.inFlight = none ∧ s.rsp = none ∧ s.host = .releaseRst :: .request ⟨0, 0⟩ :: [] :=
  ⟨rfl, rfl, rfl, rfl⟩
theorem witness_HeldUntilResponseTaken :
    let s := { State.reset with rsp := some ⟨.ok, 0⟩ }
    s.rst = false ∧ s.inFlight = none ∧ s.rsp = some ⟨.ok, 0⟩ ∧
    (s.setHost [.request ⟨0, 0⟩]).host = .request ⟨0, 0⟩ :: [] ∧
    (s.setHost [.take, .request ⟨0, 0⟩]).host = .take :: .request ⟨0, 0⟩ :: [] := ⟨rfl, rfl, rfl, rfl, rfl⟩
/-- A request accepted; one that leaves by its response; one that leaves by `rst`; an idle block. -/
theorem witness_StrictlySequentialPort :
    (∃ t, step (State.reset.setHost [.request ⟨0, 0⟩]) = .next t ∧ State.reset.inFlight ≠ some ⟨0, 0⟩ ∧
      t.inFlight = some ⟨0, 0⟩) ∧
    (∃ t, step (sent State.reset 0 0) = .next t ∧ BlockTurn (sent State.reset 0 0) ⟨0, 0⟩) ∧
    (∃ t, step (sent (State.reset.setHost [.assertRst]) 0 0) = .next t ∧ t.inFlight ≠ some ⟨0, 0⟩) ∧
    (State.reset.host = [] ∧ State.reset.inFlight = none) :=
  ⟨⟨_, rfl, by decide, rfl⟩, ⟨_, rfl, rfl, rfl, by decide⟩, ⟨_, rfl, by decide⟩, rfl, rfl⟩
theorem witness_EveryRequestAnswered : Free State.reset ∧ State.reset.host = [] := ⟨⟨rfl, rfl, rfl⟩, rfl⟩
theorem witness_OneShotDigest :
    Free State.reset ∧ State.reset.host = [] ∧ ∀ c ∈ ([countingBlock, [], [0x61]] : List (List Byte)), c.length ≤ 16 :=
  ⟨⟨rfl, rfl, rfl⟩, rfl, by decide⟩
/-- A refused WRITE and the next one, for the second clause. -/
theorem witness_AbsorbExpansion : ∃ t u, exec (asmWrite .x86 [0x61]) State.reset = .next t ∧
    t.rsp = some ⟨.seqErr, 0⟩ ∧ exec (asmWrite .x86 [0x62]) t = .next u := ⟨_, _, rfl, rfl, rfl⟩
/-- Boundary values of each error, and lines that assemble. -/
theorem witness_AssemblerErrorsExact :
    assemble (.init .h32 (2 ^ 32)) = none ∧ assemble (.init .x64 (2 ^ 64)) = none ∧
    assemble (.write .h32 17 (List.replicate 17 0)) = none ∧ assemble (.write .h32 2 [1]) = none ∧
    assemble (.init .x86 (2 ^ 32 - 1)) = some [.initX86 0xffffffff] ∧ assemble (.absorb .x86 []) = some [] ∧
    assemble (.finish .x86) = some [.finishX86] ∧ assemble (.write .h32 16 (List.replicate 16 0)) =
      some [.writeH32 (List.replicate 16 0)] := by decide

end Sys2Proof.Tests
end

section
/-! SUPPORT. The frame of a command (`10_state.md` R34, R46): what a command can do to an engine record is to load, absorb
into or finalize the engine it addresses, or to keep it; every field a command does not write follows from that. -/

namespace Sys2Proof.Machine

open Sys2Proof.Safety

variable {w l cap tw : Nat}

/-- What command `i` can make of the record `e` of the engine whose INIT, WRITE and FINISH are `init`, `write` and
`finish`: the moves of R154, R151 and R201, or nothing. -/
inductive EngineMove (init : BitVec w → Instr) (write : List Byte → Instr) (finish : Instr) (ps : List (LaneParams w l))
    (i : Instr) (e : Engine w l cap tw) : Engine w l cap tw → Prop
  /-- Another command, a STATUS, or a refused WRITE or FINISH. -/
  | kept : EngineMove init write finish ps i e e
  /-- INIT, in every STATE. -/
  | loaded (seed : BitVec w) (hi : i = init seed) : EngineMove init write finish ps i e (e.init seed)
  /-- WRITE to an ACTIVE engine. -/
  | absorbed (chunk : List Byte) (hi : i = write chunk) (ha : e.state = .active) :
    EngineMove init write finish ps i e (e.absorb ps chunk)
  /-- FINISH of an ACTIVE engine. -/
  | finalized (hi : i = finish) (ha : e.state = .active) : EngineMove init write finish ps i e e.finalize

namespace EngineMove

variable {init : BitVec w → Instr} {write : List Byte → Instr} {finish i : Instr} {ps : List (LaneParams w l)}
  {e e' : Engine w l cap tw}

/-- An engine that the command does not address keeps its record (R46). -/
theorem eq_of_target_ne {v : Variant} (m : EngineMove init write finish ps i e e') (hne : target i ≠ some v)
    (hinit : ∀ seed, target (init seed) = some v) (hwrite : ∀ chunk, target (write chunk) = some v)
    (hfinish : target finish = some v) : e' = e := by
  cases m with
  | kept => rfl
  | loaded seed hi => exact absurd (hi ▸ hinit seed) hne
  | absorbed chunk hi => exact absurd (hi ▸ hwrite chunk) hne
  | finalized hi => exact absurd (hi ▸ hfinish) hne

/-- TBUF is written by WRITE alone (R151, R154, R201). -/
theorem tbuf_eq (m : EngineMove init write finish ps i e e') (hw : ∀ chunk, i ≠ write chunk) : e'.tbuf = e.tbuf := by
  cases m with
  | kept | loaded | finalized => rfl
  | absorbed chunk hi => exact absurd hi (hw chunk)

/-- Lanes, TLEN and LEN are written by INIT and WRITE alone (R34, R151, R154, R201). -/
theorem stream_eq (m : EngineMove init write finish ps i e e') (hw : ∀ chunk, i ≠ write chunk)
    (hn : ∀ seed, i ≠ init seed) : e'.h = e.h ∧ e'.tlen = e.tlen ∧ e'.len = e.len := by
  cases m with
  | kept | finalized => exact ⟨rfl, rfl, rfl⟩
  | loaded seed hi => exact absurd hi (hn seed)
  | absorbed chunk hi => exact absurd hi (hw chunk)

end EngineMove

/-- From `s` to `t`, command `i` has moved each engine as `EngineMove` allows. -/
structure EngineMoves (i : Instr) (s t : State) : Prop where
  /-- E[0]. -/
  h32 : EngineMove .initH32 .writeH32 .finishH32 lanesH32 i s.h32 t.h32
  /-- E[1]. -/
  x86 : EngineMove .initX86 .writeX86 .finishX86 lanesX86 i s.x86 t.x86
  /-- E[2]. -/
  x64 : EngineMove .initX64 .writeX64 .finishX64 lanesX64 i s.x64 t.x64

/-- An answer that keeps every engine is within the frame of every command. -/
theorem EngineMoves.of_respond (i : Instr) (st : Status) (rd : Data) (s : State) : EngineMoves i s (s.respond st rd) :=
  ⟨.kept, .kept, .kept⟩

/-- A refusal is within the frame of every command, so behind the lifecycle check only the ACTIVE outcome matters (R244). -/
theorem EngineMoves.of_whenActive {i : Instr} {state : Lifecycle} {done s : State}
    (h : state = .active → EngineMoves i s done) : EngineMoves i s (whenActive state done s) := by
  by_cases ha : state = .active
  · rw [whenActive_of_active done s ha]
    exact h ha
  · rw [whenActive_of_not_active done s ha]
    exact .of_respond i .seqErr 0 s

/-- Every command moves each engine as `EngineMove` allows (R46, R150). -/
theorem exec_engineMoves {i : Instr} {s t : State} (h : exec i s = .next t) : EngineMoves i s t := by
  cases i <;> cases h
  case nop | statusH32 | statusX86 | statusX64 => exact .of_respond _ _ _ s
  case initH32 seed => exact ⟨.loaded seed rfl, .kept, .kept⟩
  case initX86 seed => exact ⟨.kept, .loaded seed rfl, .kept⟩
  case initX64 seed => exact ⟨.kept, .kept, .loaded seed rfl⟩
  case writeH32 chunk => exact .of_whenActive fun ha => ⟨.absorbed chunk rfl ha, .kept, .kept⟩
  case writeX86 chunk => exact .of_whenActive fun ha => ⟨.kept, .absorbed chunk rfl ha, .kept⟩
  case writeX64 chunk => exact .of_whenActive fun ha => ⟨.kept, .kept, .absorbed chunk rfl ha⟩
  case finishH32 => exact .of_whenActive fun ha => ⟨.finalized rfl ha, .kept, .kept⟩
  case finishX86 => exact .of_whenActive fun ha => ⟨.kept, .finalized rfl ha, .kept⟩
  case finishX64 => exact .of_whenActive fun ha => ⟨.kept, .kept, .finalized rfl ha⟩

/-- Settles O35: the engines' fields by the move each engine makes, the port's by what every command answers. -/
theorem commandFrame : Obligations.CommandFrame := by
  intro i s t h
  obtain ⟨mh32, mx86, mx64⟩ := exec_engineMoves h
  obtain ⟨t', p, ht', hreq, hrsp, hrst, hhost, htaken⟩ := exec_answers i s
  obtain rfl : t = t' := by simpa using h.symm.trans ht'
  refine ⟨fun hne => mh32.eq_of_target_ne hne (fun _ => rfl) (fun _ => rfl) rfl,
    fun hne => mx86.eq_of_target_ne hne (fun _ => rfl) (fun _ => rfl) rfl,
    fun hne => mx64.eq_of_target_ne hne (fun _ => rfl) (fun _ => rfl) rfl,
    fun hwrite => ?_, hrst, hhost, htaken, hreq, by simp [hrsp]⟩
  simp only [forall_and] at hwrite
  obtain ⟨wh32, wx86, wx64⟩ := hwrite
  refine ⟨mh32.tbuf_eq wh32, mx86.tbuf_eq wx86, mx64.tbuf_eq wx64, fun hinit => ?_⟩
  simp only [forall_and, forall_const] at hinit
  obtain ⟨nh32, nx86, nx64⟩ := hinit
  obtain ⟨lanes0, tlen0, len0⟩ := mh32.stream_eq wh32 nh32
  obtain ⟨lanes1, tlen1, len1⟩ := mx86.stream_eq wx86 nx86
  obtain ⟨lanes2, tlen2, len2⟩ := mx64.stream_eq wx64 nx64
  exact ⟨lanes0, lanes1, lanes2, tlen0, tlen1, tlen2, len0, len1, len2⟩

end Sys2Proof.Machine
end

section
/-! SUPPORT. The byte lanes of an encoded WRITE (`20_memory.md` R65, `30_encoding.md` R95): each row puts its chunk on DATA
with `packBytes`, whose value is below 256 to the number of bytes. -/

namespace Sys2Proof.Machine

/-- Above its bytes a packed operand is zero (R65). -/
theorem packBytes_zero_above (bytes : List Byte) (j : Nat) (h : 8 * bytes.length ≤ j) :
    (packBytes bytes).getLsbD j = false := by
  have hlt : (packBytes bytes).toNat < 2 ^ j :=
    calc (packBytes bytes).toNat
      _ ≤ leNat bytes := by simpa [packBytes, leWord] using Nat.mod_le _ _
      _ < 256 ^ bytes.length := leNat_lt bytes
      _ = 2 ^ (8 * bytes.length) := (Nat.pow_mul 2 8 bytes.length).symm
      _ ≤ 2 ^ j := Nat.pow_le_pow_right (by decide) h
  exact Nat.testBit_lt_two_pow hlt

/-- DATA of an encoded WRITE is its chunk, packed, in each of the three rows (R95). -/
theorem encode_write_data (chunk : List Byte) {row : List Byte → Instr}
    (hrow : row ∈ [Instr.writeH32, Instr.writeX86, Instr.writeX64]) :
    (encode (row chunk)).data = packBytes chunk := by
  simp only [List.mem_cons, List.not_mem_nil, or_false] at hrow
  rcases hrow with rfl | rfl | rfl <;> rfl

/-- Settles O7: DATA of each WRITE row is the packed chunk, whose bytes and upper bits are known. -/
theorem encodedChunkOnByteLanes : Obligations.EncodedChunkOnByteLanes := by
  intro chunk hlen row hrow
  rw [encode_write_data chunk hrow]
  exact ⟨packBytes_byte chunk hlen, packBytes_zero_above chunk⟩

end Sys2Proof.Machine
end

section
/-! SUPPORT. The decoder against the encoder and against R90 (`30_encoding.md` R83-R94): a command is decoded from exactly
its own word, with its operand read from DATA; and the words some command has are the legal ones. -/

namespace Sys2Proof.Machine

open Sys2Proof.Safety

/-- The operand of a command is the one R87 and R88 read from `data`; the other commands ignore `data` (R89). -/
def OperandFrom (data : Data) : Instr → Prop
  | .initH32 seed | .initX86 seed => seed = seed32 data
  | .initX64 seed => seed = seed64 data
  | .writeH32 chunk | .writeX86 chunk | .writeX64 chunk => chunk = chunkOf data chunk.length
  | .nop | .finishH32 | .finishX86 | .finishX64 | .statusH32 | .statusX86 | .statusX64 => True

/-- A command read by a row has the row's word, is well formed, and has its operand from DATA. -/
theorem encode_of_decodeRow {op eng nb : Nat} {data : Data} {i : Instr} (h : decodeRow op eng nb data = .instr i) :
    (encode i).cmd = cmdWord op eng nb ∧ i.wellFormed = true ∧ OperandFrom data i := by
  rcases (decodeRow_iff op eng nb data i).mp h with nop | init | write | finish | status
  · obtain ⟨rfl, rfl, rfl, rfl⟩ := nop
    exact ⟨rfl, rfl, trivial⟩
  · obtain ⟨rfl, rfl, ⟨rfl, rfl⟩ | ⟨rfl, rfl⟩ | ⟨rfl, rfl⟩⟩ := init <;> exact ⟨rfl, rfl, rfl⟩
  · obtain ⟨rfl, hnb, ⟨rfl, rfl⟩ | ⟨rfl, rfl⟩ | ⟨rfl, rfl⟩⟩ := write <;>
      simpa [encode, Instr.wellFormed, OperandFrom, Config.maxChunk] using hnb
  · obtain ⟨rfl, rfl, ⟨rfl, rfl⟩ | ⟨rfl, rfl⟩ | ⟨rfl, rfl⟩⟩ := finish <;> exact ⟨rfl, rfl, trivial⟩
  · obtain ⟨rfl, rfl, ⟨rfl, rfl⟩ | ⟨rfl, rfl⟩ | ⟨rfl, rfl⟩⟩ := status <;> exact ⟨rfl, rfl, trivial⟩

/-- A request with a command's own word and operand is read as that command. -/
theorem decode_of_encode_cmd {r : Request} {i : Instr} (hcmd : r.cmd = (encode i).cmd) (hwf : i.wellFormed = true)
    (hop : OperandFrom r.data i) : decode r = .instr i := by
  obtain ⟨cmd, data⟩ := r
  dsimp only at hcmd hop
  subst hcmd
  cases i
  case writeH32 chunk | writeX86 chunk | writeX64 chunk =>
    have hlen : chunk.length ≤ 16 := of_decide_eq_true hwf
    rw [encode, decode_cmdWord _ _ _ _ (by decide) (by decide) (by omega), decodeRow, withChunk_iff, ← hop]
    exact ⟨hlen, rfl⟩
  case initH32 | initX86 | initX64 =>
    cases hop
    exact decode_cmdWord 1 _ 0 data (by decide) (by decide) (by decide)
  all_goals exact decode_cmdWord _ _ 0 data (by decide) (by decide) (by decide)

/-- The decoder, said once: a command is read from exactly the requests with its word and its operand (R93). -/
theorem decode_instr_iff {r : Request} {i : Instr} :
    decode r = .instr i ↔ r.cmd = (encode i).cmd ∧ i.wellFormed = true ∧ OperandFrom r.data i := by
  constructor
  · intro h
    obtain ⟨h1, h0, hrow⟩ := (decode_iff r i).mp h
    obtain ⟨hcmd, hwf, hop⟩ := encode_of_decodeRow hrow
    exact ⟨(hcmd.trans (cmdWord_fields r.cmd h0 h1)).symm, hwf, hop⟩
  · rintro ⟨hcmd, hwf, hop⟩
    exact decode_of_encode_cmd hcmd hwf hop

/-- Settles O2: the word and the bound are two of the three parts of what the decoder reads. -/
theorem decodedCommandEncodesToItsWord : Obligations.DecodedCommandEncodesToItsWord := by
  intro r i h
  obtain ⟨hcmd, hwf, -⟩ := decode_instr_iff.mp h
  exact ⟨hwf, hcmd.symm⟩

/-- A byte list is a chunk of DATA exactly when each byte is on its lane (R87). -/
theorem eq_chunkOf_iff (data : Data) (chunk : List Byte) :
    chunk = chunkOf data chunk.length ↔ ∀ j < chunk.length, chunk[j]? = some (data.extractLsb' (8 * j) 8) := by
  constructor
  · intro h j hj
    rw [h]
    simp [chunkOf, hj]
  · intro h
    apply List.ext_getElem (chunkOf_length data chunk.length).symm
    intro j hj _
    simpa [chunkOf, hj] using h j hj

/-- The word of a WRITE as R93 lists it: the row's constant, and NB from bit 8. -/
theorem cmdWord_write (eng nb : Nat) : cmdWord 2 eng nb = BitVec.ofNat 32 (2 + 16 * eng + nb * 0x100) := by
  rw [cmdWord, Nat.mul_comm 256]

/-- The WRITE row of engine `eng` is read from its words with at most 16 bytes, chunk byte j on lane j (R87, R93). -/
theorem decode_write_iff {r : Request} {row : List Byte → Instr} {chunk : List Byte} {eng : Nat}
    (hcmd : (encode (row chunk)).cmd = cmdWord 2 eng chunk.length)
    (hwf : (row chunk).wellFormed = decide (chunk.length ≤ Config.maxChunk))
    (hop : OperandFrom r.data (row chunk) = (chunk = chunkOf r.data chunk.length)) :
    decode r = .instr (row chunk) ↔
      chunk.length ≤ 16 ∧ r.cmd = BitVec.ofNat 32 (2 + 16 * eng + chunk.length * 0x100) ∧
        ∀ j < chunk.length, chunk[j]? = some (r.data.extractLsb' (8 * j) 8) := by
  rw [decode_instr_iff, hcmd, hwf, hop, cmdWord_write, eq_chunkOf_iff, decide_eq_true_iff, and_left_comm]
  rfl

/-- Where the bound on NB holds by the row alone, the word and the operand decide (R86, R93). -/
theorem decode_iff_of_wellFormed {r : Request} {i : Instr} (hwf : i.wellFormed = true) :
    decode r = .instr i ↔ r.cmd = (encode i).cmd ∧ OperandFrom r.data i := by
  simp only [decode_instr_iff, hwf, true_and]

/-- A command that ignores DATA is read from its one word (R89). -/
theorem decode_iff_of_no_operand {r : Request} {i : Instr} (hwf : i.wellFormed = true)
    (hop : ∀ data, OperandFrom data i) : decode r = .instr i ↔ r.cmd = (encode i).cmd := by
  simp only [decode_iff_of_wellFormed hwf, hop, and_true]

/-- Settles O5: each row by `decode_instr_iff`, its operand written out. -/
theorem opcodeMapExact : Obligations.OpcodeMapExact := by
  intro r
  exact ⟨decode_iff_of_no_operand rfl fun _ => trivial,
    fun _ => decode_iff_of_wellFormed rfl,
    fun _ => decode_iff_of_wellFormed rfl,
    fun _ => decode_iff_of_wellFormed rfl,
    fun _ => decode_write_iff (eng := 0) rfl rfl rfl,
    fun _ => decode_write_iff (eng := 1) rfl rfl rfl,
    fun _ => decode_write_iff (eng := 2) rfl rfl rfl,
    decode_iff_of_no_operand rfl fun _ => trivial,
    decode_iff_of_no_operand rfl fun _ => trivial,
    decode_iff_of_no_operand rfl fun _ => trivial,
    decode_iff_of_no_operand rfl fun _ => trivial,
    decode_iff_of_no_operand rfl fun _ => trivial,
    decode_iff_of_no_operand rfl fun _ => trivial⟩

/-- `Legal(CMD)` on the numbers the fields stand for (R83, R90). -/
theorem legalCmd_iff_fields (cmd : Cmd) :
    LegalCmd cmd ↔ rsv1Field cmd = 0 ∧ rsv0Field cmd = 0 ∧
      ((opField cmd = 0 ∧ engField cmd = 0 ∧ nbField cmd = 0) ∨
       ((opField cmd = 1 ∨ opField cmd = 3 ∨ opField cmd = 4) ∧ engField cmd ≠ 3 ∧ nbField cmd = 0) ∨
       (opField cmd = 2 ∧ engField cmd ≠ 3 ∧ nbField cmd ≤ 16)) := by
  simp only [LegalCmd, ← BitVec.toNat_inj, ne_eq]
  rfl

/-- ENG has two bits (R83). -/
theorem engField_lt (cmd : Cmd) : engField cmd < 4 := (cmd.extractLsb' 4 2).isLt

/-- The field values that select a row (R90, R93), whatever DATA is. -/
theorem decodeRow_some_iff {op eng nb : Nat} (data : Data) (heng : eng < 4) :
    (∃ i, decodeRow op eng nb data = .instr i) ↔
      (op = 0 ∧ eng = 0 ∧ nb = 0) ∨ ((op = 1 ∨ op = 3 ∨ op = 4) ∧ eng ≠ 3 ∧ nb = 0) ∨
        (op = 2 ∧ eng ≠ 3 ∧ nb ≤ 16) := by
  simp only [decodeRow_iff, exists_or, exists_and_left, exists_eq', and_true]
  omega

/-- A word is legal exactly when the decoder reads a command from it, whatever DATA is (R90). -/
theorem legalCmd_iff_decode (r : Request) : LegalCmd r.cmd ↔ ∃ i, decode r = .instr i := by
  simp only [decode_iff, exists_and_left, decodeRow_some_iff r.data (engField_lt r.cmd), legalCmd_iff_fields]

/-- An illegal word is rejected by the decoder with a cause. -/
theorem decode_of_not_legalCmd {r : Request} (h : ¬LegalCmd r.cmd) : ∃ why, decode r = .illegal why := by
  cases hd : decode r with
  | instr i => exact absurd ((legalCmd_iff_decode r).mpr ⟨i, hd⟩) h
  | illegal why => exact ⟨why, rfl⟩

/-- The block's step on an illegal word answers ILLEGAL with RDATA 0 and changes nothing else (R90, R244). -/
theorem step_of_not_legalCmd {r : Request} (h : ¬LegalCmd r.cmd) {s : State} (hturn : BlockTurn s r) :
    step s = .next (answered s .illegal 0) := by
  obtain ⟨why, hd⟩ := decode_of_not_legalCmd h
  obtain ⟨hrst, hreq, hhost⟩ := hturn
  exact (step_execute hrst hreq hhost).trans (execute_illegal hd s)

/-- Settles O3: legality is what the decoder reads, and what it does not read is refused. -/
theorem legalExactlyWhenDecoded : Obligations.LegalExactlyWhenDecoded :=
  fun r => ⟨legalCmd_iff_decode r, fun h _ hturn => step_of_not_legalCmd h hturn⟩

/-- Each of the encodings R94 lists is outside R90. -/
theorem not_legalCmd_of_reserved {cmd : Cmd}
    (h : 5 ≤ opField cmd ∨ engField cmd = 3 ∨ rsv0Field cmd ≠ 0 ∨ rsv1Field cmd ≠ 0 ∨
      (16 < nbField cmd ∧ opField cmd = 2) ∨ (nbField cmd ≠ 0 ∧ opField cmd ≠ 2) ∨
      (engField cmd ≠ 0 ∧ opField cmd = 0)) : ¬LegalCmd cmd := by
  rw [legalCmd_iff_fields]
  omega

/-- Settles O4: none of R94's encodings is legal, so the decoder rejects it and the step refuses it. -/
theorem reservedEncodingsRefused : Obligations.ReservedEncodingsRefused := by
  intro r h
  simp only [← BitVec.toNat_inj, ne_eq] at h
  have hill : ¬LegalCmd r.cmd := not_legalCmd_of_reserved h
  exact ⟨decode_of_not_legalCmd hill, fun _ hturn => step_of_not_legalCmd hill hturn⟩

/-- Settles O14: the INIT rows of the opcode map, then the effect of each. -/
theorem initLoadsSeed : Obligations.InitLoadsSeed :=
  ⟨fun _ => ⟨decode_of_encode_cmd rfl rfl rfl, decode_of_encode_cmd rfl rfl rfl, decode_of_encode_cmd rfl rfl rfl⟩,
    fun _ _ _ => ⟨rfl, rfl, rfl⟩⟩

end Sys2Proof.Machine
end

section
/-! SUPPORT. The streaming commands over the lifecycle (`41_streaming.md` R153, R161-R164): the one word of NOP, the fields
STATUS reports, and the transition table, whose last line needs that an engine once created stays created. -/

namespace Sys2Proof.Machine

open Sys2Proof.Safety

variable {w l cap tw : Nat}

/-- The only legal word with OP = 0 is 0, the word of NOP (R153). -/
theorem cmd_eq_zero_of_legalCmd {cmd : Cmd} (hop : opField cmd = 0) (h : LegalCmd cmd) : cmd = 0 := by
  obtain ⟨h1, h0, hrow⟩ := (legalCmd_iff_fields cmd).mp h
  obtain ⟨heng, hnb⟩ : engField cmd = 0 ∧ nbField cmd = 0 := by omega
  calc cmd
    _ = cmdWord (opField cmd) (engField cmd) (nbField cmd) := (cmdWord_fields cmd h0 h1).symm
    _ = 0 := by rw [hop, heng, hnb]; rfl

/-- Settles O13: an OP = 0 word other than 0 is not legal, so the decoder rejects it. -/
theorem nopRespondsOk : Obligations.NopRespondsOk := by
  refine ⟨fun data => decode_of_encode_cmd rfl rfl trivial, fun r hop hne => ?_, fun s => rfl⟩
  rw [← BitVec.toNat_inj] at hop
  exact decode_of_not_legalCmd fun h => hne (cmd_eq_zero_of_legalCmd hop h)

/-- The fields of a status word stand side by side with zeros between them, for every TLEN of at most 4 bits (R92): below
each field's place the shifts give zeros, and above a field's width its own bits are zero. -/
theorem statusWord_eq_append (e : Engine w l cap tw) (htw : tw ≤ 4) :
    statusWord e =
      (e.len ++ (0 : BitVec 52) ++ e.tlen.setWidth 4 ++ (0 : BitVec 6) ++ e.state.code : BitVec 128) := by
  apply BitVec.eq_of_getLsbD_eq
  intro i hi
  have hstate : 2 ≤ i → e.state.code.getLsbD i = false := BitVec.getLsbD_of_ge _ i
  have htlen : 12 ≤ i → e.tlen.getLsbD (i - 8) = false := fun h => BitVec.getLsbD_of_ge _ _ (by omega)
  simp only [statusWord, BitVec.getLsbD_or, BitVec.getLsbD_shiftLeft, BitVec.getLsbD_append, BitVec.getLsbD_setWidth]
  obtain h | h | h | h | h : i < 2 ∨ (2 ≤ i ∧ i < 8) ∨ (8 ≤ i ∧ i < 12) ∨ (12 ≤ i ∧ i < 64) ∨ 64 ≤ i := by omega
  all_goals grind

/-- Settles O15: the STATUS rows of the opcode map, then the layout of the status word for each engine. -/
theorem statusReportsFields : Obligations.StatusReportsFields := by
  refine ⟨fun data => ⟨decode_of_encode_cmd rfl rfl trivial, decode_of_encode_cmd rfl rfl trivial,
    decode_of_encode_cmd rfl rfl trivial⟩, fun s => ?_⟩
  have hx86 := statusWord_eq_append s.x86 (le_refl 4)
  have hx64 := statusWord_eq_append s.x64 (le_refl 4)
  rw [BitVec.setWidth_eq] at hx86 hx64
  rw [← statusWord_eq_append s.h32 (by decide), ← hx86, ← hx64]
  exact ⟨rfl, rfl, rfl⟩

/-- A row of R164's table for WRITE and FINISH, where `st` is the STATE of the engine it addresses: `done` is the outcome
on an ACTIVE engine, and on any other STATE is kept and the answer is SEQERR. -/
theorem whenActive_row (st : State → Lifecycle) {done s : State} {next : Lifecycle} {rd : Data}
    (hkeep : st (s.refuse .seqErr) = st s) (hnext : st done = next) (hrsp : done.rsp = some ⟨.ok, rd⟩) :
    st (whenActive (st s) done s) = (if st s = .active then next else st s) ∧
      (whenActive (st s) done s).rsp =
        some ⟨if st s = .active then .ok else .seqErr, if st s = .active then rd else 0⟩ := by
  by_cases ha : st s = .active
  · rw [whenActive_of_active done s ha, if_pos ha, if_pos ha, if_pos ha]
    exact ⟨hnext, hrsp⟩
  · rw [whenActive_of_not_active done s ha, if_neg ha, if_neg ha, if_neg ha]
    exact ⟨hkeep, rfl⟩

/-- The row of WRITE: STATE is kept either way. -/
theorem exec_write_row (st : State → Lifecycle) {i : Instr} {done s : State}
    (hexec : exec i s = .next (whenActive (st s) done s)) (hkeep : st (s.refuse .seqErr) = st s)
    (hnext : st done = st s) (hrsp : done.rsp = some ⟨.ok, 0⟩) :
    ∃ t, exec i s = .next t ∧ st t = st s ∧ t.rsp = some ⟨if st s = .active then .ok else .seqErr, 0⟩ := by
  obtain ⟨hst, hans⟩ := whenActive_row st hkeep hnext hrsp
  exact ⟨_, hexec, by simpa using hst, by simpa using hans⟩

/-- The row of FINISH: ACTIVE becomes FINALIZED, any other STATE is kept. -/
theorem exec_finish_row (st : State → Lifecycle) {i : Instr} {done s : State} {rd : Data}
    (hexec : exec i s = .next (whenActive (st s) done s)) (hkeep : st (s.refuse .seqErr) = st s)
    (hnext : st done = .finalized) (hrsp : done.rsp = some ⟨.ok, rd⟩) :
    ∃ t r, exec i s = .next t ∧ st t = (if st s = .active then .finalized else st s) ∧
      t.rsp = some r ∧ r.rstat = (if st s = .active then .ok else .seqErr) := by
  obtain ⟨hst, hans⟩ := whenActive_row st hkeep hnext hrsp
  exact ⟨_, _, hexec, hst, hans, rfl⟩

/-- No move of a command takes an engine back to UNINIT (R164). -/
theorem EngineMove.state_ne_uninit {init : BitVec w → Instr} {write : List Byte → Instr} {finish i : Instr}
    {ps : List (LaneParams w l)} {e e' : Engine w l cap tw} (m : EngineMove init write finish ps i e e')
    (h : e.state ≠ .uninit) : e'.state ≠ .uninit := by
  cases m with
  | kept | absorbed => exact h
  | loaded | finalized => exact Lifecycle.noConfusion

/-- From `s` to `t` no engine has gone back to UNINIT. -/
def CreatedStaysCreated (s t : State) : Prop :=
  (s.h32.state ≠ .uninit → t.h32.state ≠ .uninit) ∧ (s.x86.state ≠ .uninit → t.x86.state ≠ .uninit) ∧
    (s.x64.state ≠ .uninit → t.x64.state ≠ .uninit)

/-- No command returns an engine to UNINIT (R164). -/
theorem exec_createdStaysCreated {i : Instr} {s t : State} (h : exec i s = .next t) : CreatedStaysCreated s t := by
  obtain ⟨mh32, mx86, mx64⟩ := exec_engineMoves h
  exact ⟨mh32.state_ne_uninit, mx86.state_ne_uninit, mx64.state_ne_uninit⟩

/-- An accepted request returns no engine to UNINIT: it runs a command or is refused (R244). -/
theorem execute_createdStaysCreated {r : Request} {s t : State} (h : execute r s = .next t) :
    CreatedStaysCreated s t := by
  cases hd : decode r with
  | instr i => exact exec_createdStaysCreated ((execute_instr hd s).symm.trans h)
  | illegal why =>
    cases (execute_illegal hd s).symm.trans h
    exact ⟨id, id, id⟩

/-- The host's turn writes no engine unless it asserts `rst` (R281). -/
theorem hostTurn_engines {s : State} (h : s.host.head? ≠ some .assertRst) :
    (hostTurn s).h32 = s.h32 ∧ (hostTurn s).x86 = s.x86 ∧ (hostTurn s).x64 = s.x64 := by
  unfold hostTurn
  split
  case h_2 | h_3 => split <;> exact ⟨rfl, rfl, rfl⟩
  case h_4 hhost => exact absurd (congrArg List.head? hhost) h
  case h_1 | h_5 | h_6 => exact ⟨rfl, rfl, rfl⟩

/-- No step returns an engine to UNINIT unless it asserts `rst` (R164). -/
theorem step_createdStaysCreated {s t : State} (h : step s = .next t) (hhost : s.host.head? ≠ some .assertRst) :
    CreatedStaysCreated s t := by
  obtain ⟨r, -, -, -, hblock⟩ | hturn := step_cases s
  · exact execute_createdStaysCreated (hblock.symm.trans h)
  · cases hturn.symm.trans h
    obtain ⟨h0, h1, h2⟩ := hostTurn_engines hhost
    simp only [CreatedStaysCreated, h0, h1, h2, imp_self, and_self]

/-- Settles O34: the rows of the table by the meaning of each command, its last two lines by what each move and each turn
does to an engine already created. -/
theorem transitionTable : Obligations.TransitionTable := by
  refine ⟨fun _ _ => ⟨_, rfl, rfl, rfl, rfl⟩, fun _ _ => ⟨_, rfl, rfl, rfl, rfl⟩, fun _ _ => ⟨_, rfl, rfl, rfl, rfl⟩,
    fun s chunk p hp => ?_, fun s p hp => ?_, fun s i hi => ?_, fun _ _ hturn hill => step_of_not_legalCmd hill hturn,
    fun _ _ _ => exec_createdStaysCreated, fun _ _ => step_createdStaysCreated⟩
  · simp only [List.mem_cons, List.not_mem_nil, or_false] at hp
    rcases hp with rfl | rfl | rfl <;> exact exec_write_row _ rfl rfl rfl rfl
  · simp only [List.mem_cons, List.not_mem_nil, or_false] at hp
    rcases hp with rfl | rfl | rfl <;> exact exec_finish_row _ rfl rfl rfl rfl
  · simp only [List.mem_cons, List.not_mem_nil, or_false] at hi
    rcases hi with rfl | rfl | rfl | rfl <;> exact ⟨_, _, rfl, rfl, rfl, rfl, rfl, rfl⟩

end Sys2Proof.Machine
end

section
/-! SUPPORT. The length fold of finalization (`42_finalization.md` R197): what it does to each lane, and which bits of LEN
it reads. -/

namespace Sys2Proof.Machine

variable {w l : Nat}

/-- The length fold treats every lane alike (R197). -/
theorem foldLength_eq_map (len : BitVec 64) (h : Vector (BitVec w) l) :
    foldLength len h = h.map (· ^^^ len.setWidth w) := by
  ext j hj
  simp [foldLength]

/-- The length fold reads LEN modulo 2^W only (R197). -/
theorem foldLength_congr {len len' : BitVec 64} (hlen : len.setWidth w = len'.setWidth w) (h : Vector (BitVec w) l) :
    foldLength len h = foldLength len' h := by
  rw [foldLength_eq_map, foldLength_eq_map, hlen]

/-- Settles O29: the fold lane by lane, with LEN[31:0] or all of LEN for LEN modulo 2^W; the 32-bit digests depend on LEN
through the fold alone. -/
theorem lengthFoldModuloWidth : Obligations.LengthFoldModuloWidth := by
  have low (len : BitVec 64) : len.setWidth 32 = len.extractLsb' 0 32 := BitVec.setWidth_eq_extractLsb' (by decide)
  refine ⟨fun len _ => ?_, fun len _ _ _ _ => ?_, fun len _ _ => ?_, fun len len' tail hlen => ?_⟩
  · simp [foldLength_eq_map, low]
  · simp [foldLength_eq_map, low]
  · simp [foldLength_eq_map]
  · rw [← low, ← low] at hlen
    exact ⟨fun h => by rw [finalH32, foldLength_congr hlen, finalH32],
      fun h => by rw [finalX86, foldLength_congr hlen, finalX86]⟩

end Sys2Proof.Machine
end

section
/-! SUPPORT. The one exceptional outcome (`60_exceptions.md` R243-R245): when a command is out of sequence, and the three
ways the block's step can answer a request. -/

namespace Sys2Proof.Machine

open Sys2Proof.Safety

/-- The command is a WRITE or a FINISH and the engine it addresses is not ACTIVE (R243). -/
def OutOfSequence (s : State) : Instr → Prop
  | .writeH32 _ | .finishH32 => s.h32.state ≠ .active
  | .writeX86 _ | .finishX86 => s.x86.state ≠ .active
  | .writeX64 _ | .finishX64 => s.x64.state ≠ .active
  | .nop | .initH32 _ | .initX86 _ | .initX64 _ | .statusH32 | .statusX86 | .statusX64 => False

/-- A command out of sequence is answered SEQERR with RDATA 0, and nothing else changes (R243, R244). -/
theorem exec_of_outOfSequence {i : Instr} {s : State} (h : OutOfSequence s i) :
    exec i s = .next (answered s .seqErr 0) := by
  cases i
  case nop | initH32 | initX86 | initX64 | statusH32 | statusX86 | statusX64 => exact h.elim
  all_goals exact congrArg Host.Outcome.next (whenActive_of_not_active _ s h)

/-- Behind the lifecycle check an ACTIVE engine's answer is the answer of the command's own outcome (R243). -/
theorem whenActive_rsp {state : Lifecycle} {done s : State} {rd : Data} (h : state = .active)
    (hrsp : done.rsp = some ⟨.ok, rd⟩) : ∃ rd, (whenActive state done s).rsp = some ⟨.ok, rd⟩ :=
  ⟨rd, by rw [whenActive_of_active done s h, hrsp]⟩

/-- A command that is not out of sequence is answered OK (R243). -/
theorem exec_rsp_ok {i : Instr} {s t : State} (h : ¬OutOfSequence s i) (hexec : exec i s = .next t) :
    ∃ rd, t.rsp = some ⟨.ok, rd⟩ := by
  cases i <;> cases hexec
  case nop | initH32 | initX86 | initX64 | statusH32 | statusX86 | statusX64 => exact ⟨_, rfl⟩
  all_goals exact whenActive_rsp (not_not.mp h) rfl

/-- Settles O19: WRITE and FINISH off an ACTIVE engine are out of sequence, the other commands never are. -/
theorem seqErrUnlessActive : Obligations.SeqErrUnlessActive := by
  intro s
  refine ⟨fun h => ⟨exec_of_outOfSequence h, fun _ => exec_of_outOfSequence h⟩,
    fun h => ⟨exec_of_outOfSequence h, fun _ => exec_of_outOfSequence h⟩,
    fun h => ⟨exec_of_outOfSequence h, fun _ => exec_of_outOfSequence h⟩,
    fun i t p hwrite hh32 hx86 hx64 hexec hp => ?_⟩
  simp only [forall_and] at hwrite
  obtain ⟨wh32, wx86, wx64⟩ := hwrite
  have hin : ¬OutOfSequence s i := by
    cases i
    case writeH32 chunk => exact absurd rfl (wh32 chunk)
    case writeX86 chunk => exact absurd rfl (wx86 chunk)
    case writeX64 chunk => exact absurd rfl (wx64 chunk)
    case finishH32 | finishX86 | finishX64 => contradiction
    all_goals exact id
  obtain ⟨rd, hrsp⟩ := exec_rsp_ok hin hexec
  cases hrsp.symm.trans hp
  exact Status.noConfusion

/-- R243 on the word in flight: OP is WRITE or FINISH, and ENG selects an engine that is not ACTIVE. -/
def WordOutOfSequence (s : State) (cmd : Cmd) : Prop :=
  (cmd.extractLsb' 0 4 = 2 ∨ cmd.extractLsb' 0 4 = 3) ∧ addressedState s (cmd.extractLsb' 4 2) ≠ .active

/-- A decoded command is out of sequence exactly when its word is. -/
theorem wordOutOfSequence_iff {r : Request} {i : Instr} (h : decode r = .instr i) (s : State) :
    WordOutOfSequence s r.cmd ↔ OutOfSequence s i := by
  obtain ⟨-, -, hrow⟩ := (decode_iff r i).mp h
  have hop (n : BitVec 4) : r.cmd.extractLsb' 0 4 = n ↔ opField r.cmd = n.toNat := BitVec.toNat_inj.symm
  have heng (n : BitVec 2) : r.cmd.extractLsb' 4 2 = n ↔ engField r.cmd = n.toNat := BitVec.toNat_inj.symm
  simp only [WordOutOfSequence, addressedState, hop, heng]
  rcases (decodeRow_iff _ _ _ _ i).mp hrow with nop | init | write | finish | status
  · obtain ⟨ho, -, -, rfl⟩ := nop
    simp [ho, OutOfSequence]
  · obtain ⟨ho, -, ⟨-, rfl⟩ | ⟨-, rfl⟩ | ⟨-, rfl⟩⟩ := init <;> simp [ho, OutOfSequence]
  · obtain ⟨ho, -, ⟨he, rfl⟩ | ⟨he, rfl⟩ | ⟨he, rfl⟩⟩ := write <;> simp [ho, he, OutOfSequence]
  · obtain ⟨ho, -, ⟨he, rfl⟩ | ⟨he, rfl⟩ | ⟨he, rfl⟩⟩ := finish <;> simp [ho, he, OutOfSequence]
  · obtain ⟨ho, -, ⟨-, rfl⟩ | ⟨-, rfl⟩ | ⟨-, rfl⟩⟩ := status <;> simp [ho, OutOfSequence]

/-- The block's step on a request, said once: ILLEGAL is decided first, then SEQERR, and either changes nothing else; the
remaining requests are answered OK (R243-R245). -/
theorem step_answers {s : State} {r : Request} (hturn : BlockTurn s r) :
    (¬LegalCmd r.cmd ∧ step s = .next (answered s .illegal 0)) ∨
    (LegalCmd r.cmd ∧ WordOutOfSequence s r.cmd ∧ step s = .next (answered s .seqErr 0)) ∨
    (LegalCmd r.cmd ∧ ¬WordOutOfSequence s r.cmd ∧
      ∃ t rd, step s = .next t ∧ t.inFlight = none ∧ t.rsp = some ⟨.ok, rd⟩) := by
  by_cases hlegal : LegalCmd r.cmd
  case neg => exact .inl ⟨hlegal, step_of_not_legalCmd hlegal hturn⟩
  obtain ⟨i, hd⟩ := (legalCmd_iff_decode r).mp hlegal
  obtain ⟨hrst, hreq, hhost⟩ := hturn
  have hstep : step s = exec i s := (step_execute hrst hreq hhost).trans (execute_instr hd s)
  rw [wordOutOfSequence_iff hd, hstep]
  by_cases hseq : OutOfSequence s i
  · exact .inr (.inl ⟨hlegal, hseq, exec_of_outOfSequence hseq⟩)
  · obtain ⟨t, -, hexec, hnone, -⟩ := exec_answers i s
    obtain ⟨rd, hrsp⟩ := exec_rsp_ok hseq hexec
    exact .inr (.inr ⟨hlegal, hseq, t, rd, hexec, hnone, hrsp⟩)

/-- The negation of R243's condition, as the condition of OK. -/
theorem not_wordOutOfSequence_iff (s : State) (cmd : Cmd) :
    ¬WordOutOfSequence s cmd ↔ (cmd.extractLsb' 0 4 ≠ 2 ∧ cmd.extractLsb' 0 4 ≠ 3) ∨
      addressedState s (cmd.extractLsb' 4 2) = .active := by
  simp only [WordOutOfSequence, not_and_or, not_or, not_not]

/-- Settles O10: each of the three answers has its own status, and their conditions exclude one another. -/
theorem responseStatusExact : Obligations.ResponseStatusExact := by
  intro s r hturn
  simp only [← not_wordOutOfSequence_iff]
  obtain ⟨hlegal, hstep⟩ | ⟨hlegal, hseq, hstep⟩ | ⟨hlegal, hseq, t, rd, hstep, hnone, hrsp⟩ := step_answers hturn
  · exact ⟨_, _, hstep, rfl, rfl, iff_of_true rfl hlegal, iff_of_false Status.noConfusion fun h => hlegal h.1,
      iff_of_false Status.noConfusion fun h => hlegal h.1⟩
  · exact ⟨_, _, hstep, rfl, rfl, iff_of_false Status.noConfusion fun h => h hlegal, iff_of_true rfl ⟨hlegal, hseq⟩,
      iff_of_false Status.noConfusion fun h => h.2 hseq⟩
  · exact ⟨t, _, hstep, hnone, hrsp, iff_of_false Status.noConfusion fun h => h hlegal,
      iff_of_false Status.noConfusion fun h => hseq h.2, iff_of_true rfl ⟨hlegal, hseq⟩⟩

/-- An answered request leaves no trace once the next one has transferred (R244). -/
theorem loadRequest_answered (s : State) (rstat : Status) (rdata : Data) (r : Request) :
    (answered s rstat rdata).loadRequest r = s.loadRequest r := rfl

/-- Settles O11: both refusals are an answer and nothing else, which the next request replaces. -/
theorem refusalWritesNothing : Obligations.RefusalWritesNothing := by
  intro s t r p hturn hstep hp hne
  have hrefused : t = answered s p.rstat 0 := by
    obtain ⟨-, h⟩ | ⟨-, -, h⟩ | ⟨-, -, t', rd, h, -, hrsp⟩ := step_answers hturn
    all_goals cases hstep.symm.trans h
    · cases hp
      rfl
    · cases hp
      rfl
    · cases hrsp.symm.trans hp
      exact absurd rfl hne
  exact ⟨hrefused, fun r' => by rw [hrefused, loadRequest_answered]⟩

end Sys2Proof.Machine
end

section
/-! SUPPORT. Non-interference between engines (`70_reset_and_hazards.md` R277, R252): a command reads no engine but the one
it addresses, so what another engine's command did before it shows neither in its response nor in what it writes. -/

namespace Sys2Proof.Machine

open Sys2Proof.Safety

/-- The record of the engine of each variant (R34). -/
def EngineOf : Variant → Type
  | .h32 => EngineH32
  | .x86 => EngineX86
  | .x64 => EngineX64

/-- The engine of a variant, so that a statement about any engine is made once. -/
def State.engine (s : State) : (v : Variant) → EngineOf v
  | .h32 => s.h32
  | .x86 => s.x86
  | .x64 => s.x64

/-- A command leaves the engines it does not address as they were (R46). -/
theorem exec_engine_of_target_ne {i : Instr} {s t : State} (h : exec i s = .next t) {v : Variant}
    (hne : target i ≠ some v) : t.engine v = s.engine v := by
  obtain ⟨hh32, hx86, hx64, -⟩ := commandFrame i s t h
  cases v with
  | h32 => exact hh32 hne
  | x86 => exact hx86 hne
  | x64 => exact hx64 hne

/-- What led from `s` to `t` and what led from `s'` to `t'` cannot be told apart. -/
structure SameOutcome (s s' t t' : State) : Prop where
  /-- The responses are equal. -/
  rsp : t.rsp = t'.rsp
  /-- An engine that was the same in both states is so afterwards. -/
  engine : ∀ v, s.engine v = s'.engine v → t.engine v = t'.engine v

namespace SameOutcome

variable {s s' : State} {st : Status} {rd rd' : Data}

/-- The same answer with no engine written. -/
theorem of_respond (hrd : rd = rd') : SameOutcome s s' (s.respond st rd) (s'.respond st rd') where
  rsp := by simp [hrd]
  engine v h := by cases v <;> exact h

/-- The same answer and the same record written to E[0]. -/
theorem of_setH32 {e e' : EngineH32} (he : e = e') (hrd : rd = rd') :
    SameOutcome s s' ((s.setH32 e).respond st rd) ((s'.setH32 e').respond st rd') where
  rsp := by simp [hrd]
  engine
    | .h32, _ => he
    | .x86, h => h
    | .x64, h => h

/-- The same answer and the same record written to E[1]. -/
theorem of_setX86 {e e' : EngineX86} (he : e = e') (hrd : rd = rd') :
    SameOutcome s s' ((s.setX86 e).respond st rd) ((s'.setX86 e').respond st rd') where
  rsp := by simp [hrd]
  engine
    | .h32, h => h
    | .x86, _ => he
    | .x64, h => h

/-- The same answer and the same record written to E[2]. -/
theorem of_setX64 {e e' : EngineX64} (he : e = e') (hrd : rd = rd') :
    SameOutcome s s' ((s.setX64 e).respond st rd) ((s'.setX64 e').respond st rd') where
  rsp := by simp [hrd]
  engine
    | .h32, h => h
    | .x86, h => h
    | .x64, _ => he

/-- The lifecycle check of one STATE goes the same way twice: a refusal is the same answer (R243, R244). -/
theorem of_whenActive {state state' : Lifecycle} {done done' : State} (hstate : state = state')
    (hdone : SameOutcome s s' done done') :
    SameOutcome s s' (whenActive state done s) (whenActive state' done' s') := by
  subst hstate
  by_cases ha : state = .active
  · rwa [whenActive_of_active done s ha, whenActive_of_active done' s' ha]
  · rw [whenActive_of_not_active done s ha, whenActive_of_not_active done' s' ha]
    exact of_respond rfl

end SameOutcome

/-- Of the engines a command reads the one it addresses alone: from two states that agree on it the outcome is the same. -/
theorem exec_sameOutcome {i : Instr} {s s' t t' : State} (hread : ∀ v, target i = some v → s.engine v = s'.engine v)
    (h : exec i s = .next t) (h' : exec i s' = .next t') : SameOutcome s s' t t' := by
  have eh32 (hi : target i = some .h32) : s.h32 = s'.h32 := hread .h32 hi
  have ex86 (hi : target i = some .x86) : s.x86 = s'.x86 := hread .x86 hi
  have ex64 (hi : target i = some .x64) : s.x64 = s'.x64 := hread .x64 hi
  cases i <;> cases h <;> cases h'
  case nop => exact .of_respond rfl
  case initH32 seed => exact .of_setH32 (by rw [eh32 rfl]) rfl
  case initX86 seed => exact .of_setX86 (by rw [ex86 rfl]) rfl
  case initX64 seed => exact .of_setX64 (by rw [ex64 rfl]) rfl
  case writeH32 chunk => exact .of_whenActive (by rw [eh32 rfl]) (.of_setH32 (by rw [eh32 rfl]) rfl)
  case writeX86 chunk => exact .of_whenActive (by rw [ex86 rfl]) (.of_setX86 (by rw [ex86 rfl]) rfl)
  case writeX64 chunk => exact .of_whenActive (by rw [ex64 rfl]) (.of_setX64 (by rw [ex64 rfl]) rfl)
  case finishH32 => exact .of_whenActive (by rw [eh32 rfl]) (.of_setH32 (by rw [eh32 rfl]) (by rw [eh32 rfl]))
  case finishX86 => exact .of_whenActive (by rw [ex86 rfl]) (.of_setX86 (by rw [ex86 rfl]) (by rw [ex86 rfl]))
  case finishX64 => exact .of_whenActive (by rw [ex64 rfl]) (.of_setX64 (by rw [ex64 rfl]) (by rw [ex64 rfl]))
  case statusH32 => exact .of_respond (by rw [eh32 rfl])
  case statusX86 => exact .of_respond (by rw [ex86 rfl])
  case statusX64 => exact .of_respond (by rw [ex64 rfl])

/-- Settles O36: no engine is addressed by both commands, so the first one neither changes what the other reads nor writes
what the other writes; for an engine the one command does not address, both orders end as the other command alone. -/
theorem enginesCommute : Obligations.EnginesCommute := by
  intro i j s hne
  have hdisjoint (v : Variant) : target i ≠ some v ∨ target j ≠ some v := by
    by_contra! hboth
    obtain ⟨hi, hj⟩ := hboth
    simp [hi, hj] at hne
  obtain ⟨a, ha⟩ := exec_next i s
  obtain ⟨b, hb⟩ := exec_next j a
  obtain ⟨c, hc⟩ := exec_next j s
  obtain ⟨d, hd⟩ := exec_next i c
  have hj : SameOutcome a s b c := exec_sameOutcome
    (fun v hv => exec_engine_of_target_ne ha ((hdisjoint v).resolve_right (not_not.mpr hv))) hb hc
  have hi : SameOutcome s c a d := exec_sameOutcome
    (fun v hv => (exec_engine_of_target_ne hc ((hdisjoint v).resolve_left (not_not.mpr hv))).symm) ha hd
  have hengine (v : Variant) : b.engine v = d.engine v := by
    rcases hdisjoint v with hv | hv
    · calc b.engine v
        _ = c.engine v := hj.engine v (exec_engine_of_target_ne ha hv)
        _ = d.engine v := (exec_engine_of_target_ne hd hv).symm
    · calc b.engine v
        _ = a.engine v := exec_engine_of_target_ne hb hv
        _ = d.engine v := hi.engine v (exec_engine_of_target_ne hc hv).symm
  exact ⟨a, b, c, d, ha, hb, hc, hd, hengine .h32, hengine .x86, hengine .x64, hj.rsp, hi.rsp⟩

end Sys2Proof.Machine
end

section
/-! SUPPORT. A stream cut into blocks (`20_memory.md` R62, `41_streaming.md` R152): the lanes and the tail after a stream
that continues another are those after the continuation alone, begun with the first one's lanes and tail. -/

namespace Sys2Proof.Machine

open Sys2Proof.Safety

variable {w l : Nat} {bs : Nat}

/-- A stream shorter than a block mixes nothing. -/
theorem streamLanes_of_short (ps : List (LaneParams w l)) (h : Vector (BitVec w) l) {s : List Byte}
    (hs : s.length < bs) : streamLanes ps bs h s = h := by
  simp [streamLanes, Nat.div_eq_of_lt hs]

/-- A stream shorter than a block is all tail. -/
theorem streamTail_of_short {s : List Byte} (hs : s.length < bs) : streamTail bs s = s := by
  simp [streamTail, Nat.div_eq_of_lt hs]

/-- A stream of at least a block has one block more than what follows its first block. -/
theorem length_div_of_block (hbs : 0 < bs) {s : List Byte} (hs : bs ≤ s.length) :
    s.length / bs = (s.drop bs).length / bs + 1 := by
  rw [List.length_drop]
  exact Nat.div_eq_sub_div hbs hs

/-- The first block of a stream is mixed first (R62). -/
theorem streamLanes_of_block (ps : List (LaneParams w l)) (hbs : 0 < bs) (h : Vector (BitVec w) l) {s : List Byte}
    (hs : bs ≤ s.length) : streamLanes ps bs h s = streamLanes ps bs (blockMix ps h (s.take bs)) (s.drop bs) := by
  have hnext (k : Nat) : streamBlock bs s (k + 1) = streamBlock bs (s.drop bs) k := by
    simp [streamBlock, List.drop_drop, Nat.mul_succ, Nat.add_comm]
  simp only [streamLanes, length_div_of_block hbs hs, List.range_succ_eq_map, List.foldl_cons, List.foldl_map, hnext]
  simp [streamBlock]

/-- The first block of a stream is no part of its tail. -/
theorem streamTail_of_block (hbs : 0 < bs) {s : List Byte} (hs : bs ≤ s.length) :
    streamTail bs s = streamTail bs (s.drop bs) := by
  rw [streamTail, streamTail, length_div_of_block hbs hs, List.drop_drop, Nat.mul_succ, Nat.add_comm bs]

/-- Induction along the blocks of a stream. -/
theorem block_induction {motive : List Byte → Prop} (hbs : 0 < bs) (short : ∀ s, s.length < bs → motive s)
    (block : ∀ s, bs ≤ s.length → motive (s.drop bs) → motive s) (s : List Byte) : motive s := by
  induction hn : s.length using Nat.strong_induction_on generalizing s with
  | _ n ih =>
    by_cases hs : s.length < bs
    · exact short s hs
    · exact block s (by omega) (ih _ (by rw [List.length_drop]; omega) _ rfl)

/-- The lanes after a stream in two pieces (R152). -/
theorem streamLanes_append (ps : List (LaneParams w l)) (hbs : 0 < bs) (h : Vector (BitVec w) l) (s t : List Byte) :
    streamLanes ps bs h (s ++ t) = streamLanes ps bs (streamLanes ps bs h s) (streamTail bs s ++ t) := by
  induction s using block_induction hbs generalizing h with
  | short s hs => rw [streamLanes_of_short ps h hs, streamTail_of_short hs]
  | block s hs ih =>
    have hst : bs ≤ (s ++ t).length := by rw [List.length_append]; omega
    rw [streamLanes_of_block ps hbs h hst, List.take_append_of_le_length hs, List.drop_append_of_le_length hs, ih,
      ← streamLanes_of_block ps hbs h hs, ← streamTail_of_block hbs hs]

/-- The tail after a stream in two pieces (R152). -/
theorem streamTail_append (hbs : 0 < bs) (s t : List Byte) :
    streamTail bs (s ++ t) = streamTail bs (streamTail bs s ++ t) := by
  induction s using block_induction hbs with
  | short s hs => rw [streamTail_of_short hs]
  | block s hs ih =>
    have hst : bs ≤ (s ++ t).length := by rw [List.length_append]; omega
    rw [streamTail_of_block hbs hst, List.drop_append_of_le_length hs, ih, ← streamTail_of_block hbs hs]

end Sys2Proof.Machine
end

section
/-! SUPPORT. An engine that takes in bytes (`41_streaming.md` R151, R152): both readings of the absorb leave the engine as
its stream says, and so do any pieces one after another. -/

namespace Sys2Proof.Machine

open Sys2Proof.Safety

variable {w l cap tw : Nat} {ps : List (LaneParams w l)} {e f g : Engine w l cap tw}

/-- `f` is the engine `e` after the bytes `s`, but for LEN: the stream goes on from the bytes in `e`'s tail (R62). -/
structure Streamed (ps : List (LaneParams w l)) (e : Engine w l cap tw) (s : List Byte) (f : Engine w l cap tw) :
    Prop where
  /-- STATE is kept. -/
  state : f.state = e.state
  /-- Every complete block of tail and bytes joined is mixed. -/
  h : f.h = streamLanes ps (cap + 1) e.h (e.tail ++ s)
  /-- The rest is the tail. -/
  tail : f.tail = streamTail (cap + 1) (e.tail ++ s)
  /-- TLEN counts the tail. -/
  tlen : f.tlen.toNat = (e.tlen.toNat + s.length) % (cap + 1)

/-- A tail is shorter than a block (R35, R36). -/
theorem Engine.tail_length_lt (hw : 2 ^ tw = cap + 1) (e : Engine w l cap tw) : e.tail.length < cap + 1 := by
  rw [Engine.tail_length hw, ← hw]
  exact e.tlen.isLt

namespace Streamed

/-- No bytes leave the engine as it is. -/
theorem nil (hw : 2 ^ tw = cap + 1) : Streamed ps e [] e where
  state := rfl
  h := by rw [List.append_nil, streamLanes_of_short ps e.h (e.tail_length_lt hw)]
  tail := by rw [List.append_nil, streamTail_of_short (e.tail_length_lt hw)]
  tlen := (Nat.mod_eq_of_lt (hw ▸ e.tlen.isLt)).symm

/-- Two pieces one after another are one piece (R152). -/
theorem trans {s t : List Byte} (m : Streamed ps e s f) (n : Streamed ps f t g) : Streamed ps e (s ++ t) g where
  state := n.state.trans m.state
  h := by rw [n.h, m.h, m.tail, ← streamLanes_append ps (Nat.add_one_pos cap), List.append_assoc]
  tail := by rw [n.tail, m.tail, ← streamTail_append (Nat.add_one_pos cap), List.append_assoc]
  tlen := by rw [n.tlen, m.tlen, List.length_append, Nat.mod_add_mod, Nat.add_assoc]

/-- The block-wise absorb (R151). -/
theorem absorb (hw : 2 ^ tw = cap + 1) (chunk : List Byte) : Streamed ps e chunk (e.absorb ps chunk) where
  state := rfl
  h := Engine.absorb_h ps chunk e
  tail := Engine.absorb_tail hw ps chunk e
  tlen := Engine.absorb_tlen hw ps chunk e

/-- A byte that completes a block: the full tail and the byte are the one block mixed, and the tail is empty. -/
theorem absorbByte_of_full (b : Byte) (hfull : e.tlen.toNat = cap) :
    Streamed ps e [b] (absorbByte ps e b) := by
  have htail : e.tail = e.tbuf.toList := by simp [Engine.tail, hfull]
  have hlen : (e.tbuf.toList ++ [b]).length = cap + 1 := by simp
  simp only [absorbByte, if_pos hfull]
  refine ⟨rfl, ?_, ?_, by simp [hfull]⟩
  · rw [htail, streamLanes_of_block ps (Nat.add_one_pos cap) _ hlen.ge, ← hlen, List.take_length, List.drop_length,
      streamLanes_of_short _ _ (by simp)]
  · rw [htail, streamTail_of_block (Nat.add_one_pos cap) hlen.ge, ← hlen, List.drop_length, streamTail_of_short (by simp)]
    simp [Engine.tail]

/-- A byte that does not complete a block is the tail's next byte. -/
theorem absorbByte_of_not_full (hw : 2 ^ tw = cap + 1) (b : Byte) (hroom : e.tlen.toNat ≠ cap) :
    Streamed ps e [b] (absorbByte ps e b) := by
  have hlt : e.tlen.toNat + 1 < cap + 1 := by have := e.tlen.isLt; omega
  have hshort : (e.tail ++ [b]).length < cap + 1 := by simpa [Engine.tail_length hw] using hlt
  have hsucc : (e.tlen + 1).toNat = e.tlen.toNat + 1 := by
    simp only [BitVec.toNat_add, BitVec.ofNat_eq_ofNat, BitVec.toNat_ofNat, hw, Nat.add_mod_mod, Nat.mod_eq_of_lt hlt]
  simp only [absorbByte, if_neg hroom]
  refine ⟨rfl, by rw [streamLanes_of_short ps e.h hshort], ?_, hsucc.trans (Nat.mod_eq_of_lt hlt).symm⟩
  rw [streamTail_of_short hshort]
  apply List.ext_getElem
  · simp only [Engine.tail, hsucc, List.length_take, Vector.length_toList, List.length_append, List.length_singleton]
    omega
  · intro i hi _
    simp only [Engine.tail, hsucc, List.length_take, Vector.length_toList] at hi
    by_cases h : i = e.tlen.toNat
    · simp [Engine.tail, h]
    · rw [List.getElem_append_left (by rw [Engine.tail_length hw]; omega)]
      simp [Engine.tail, h]

/-- One byte of the byte-serial reading (R151). -/
theorem absorbByte (hw : 2 ^ tw = cap + 1) (b : Byte) : Streamed ps e [b] (absorbByte ps e b) := by
  by_cases hfull : e.tlen.toNat = cap
  · exact absorbByte_of_full b hfull
  · exact absorbByte_of_not_full hw b hfull

/-- The bytes of a chunk in turn (R151). -/
theorem foldl_absorbByte (hw : 2 ^ tw = cap + 1) (chunk : List Byte) :
    Streamed ps e chunk (chunk.foldl (Safety.absorbByte ps) e) := by
  induction chunk generalizing e with
  | nil => exact nil hw
  | cons b chunk ih => exact (absorbByte hw b).trans ih

/-- The bytes taken in say what the engine is, but for LEN and the bytes above its tail. -/
theorem same {s : List Byte} (m : Streamed ps e s f) (n : Streamed ps e s g) :
    f.state = g.state ∧ f.h = g.h ∧ f.tail = g.tail ∧ f.tlen = g.tlen :=
  ⟨m.state.trans n.state.symm, m.h.trans n.h.symm, m.tail.trans n.tail.symm,
    BitVec.eq_of_toNat_eq (m.tlen.trans n.tlen.symm)⟩

end Streamed

/-- The two readings of R151 leave the same engine. -/
theorem absorb_same_absorbSerial (hw : 2 ^ tw = cap + 1) (ps : List (LaneParams w l)) (chunk : List Byte)
    (e : Engine w l cap tw) :
    let a := e.absorb ps chunk
    let b := absorbSerial ps chunk e
    a.state = b.state ∧ a.h = b.h ∧ a.tail = b.tail ∧ a.tlen = b.tlen ∧ a.len = b.len := by
  obtain ⟨hstate, hh, htail, htlen⟩ :=
    (Streamed.absorb (ps := ps) (e := e) hw chunk).same (Streamed.foldl_absorbByte hw chunk)
  exact ⟨hstate, hh, htail, htlen, rfl⟩

/-- Settles O20: in each engine the byte-serial reading takes in the same stream. -/
theorem byteSerialSameAsBlockwise : Obligations.ByteSerialSameAsBlockwise := fun chunk =>
  ⟨absorb_same_absorbSerial rfl lanesH32 chunk, absorb_same_absorbSerial rfl lanesX86 chunk,
    absorb_same_absorbSerial rfl lanesX64 chunk⟩

end Sys2Proof.Machine
end

section
/-! SUPPORT. The encoder read by the decoder (`30_encoding.md` R87, R88, R93, R95), and what a step does with a request in
flight (`41_streaming.md` R150). -/

namespace Sys2Proof.Machine

open Sys2Proof.Safety

/-- A 32-bit seed is read back from DATA (R88, R95). -/
@[simp] theorem seed32_seedData (seed : Word32) : seed32 (seedData seed) = seed := by
  simp [seed32, seedData, ← BitVec.setWidth_eq_extractLsb']

/-- A 64-bit seed is read back from DATA (R88, R95). -/
@[simp] theorem seed64_seedData (seed : Word64) : seed64 (seedData seed) = seed := by
  simp [seed64, seedData, ← BitVec.setWidth_eq_extractLsb']

/-- The encoder puts a command's operand where the decoder reads it (R87, R88, R95). -/
theorem operandFrom_encode {i : Instr} (hwf : i.wellFormed = true) : OperandFrom (encode i).data i := by
  cases i
  case initH32 seed | initX86 seed => exact (seed32_seedData seed).symm
  case initX64 seed => exact (seed64_seedData seed).symm
  case writeH32 chunk | writeX86 chunk | writeX64 chunk =>
    exact (chunkOf_packBytes chunk (of_decide_eq_true hwf)).symm
  all_goals exact trivial

/-- Settles O1: the encoding of a command is one of the requests it is read from. -/
theorem decodeOfEncode : Obligations.DecodeOfEncode :=
  fun _ hwf => decode_instr_iff.mpr ⟨rfl, hwf, operandFrom_encode hwf⟩

/-- Settles O6: each word is its command's own word, with the operand on DATA. -/
theorem sampleWordsDecode : Obligations.SampleWordsDecode :=
  ⟨decode_of_encode_cmd rfl rfl trivial, decode_of_encode_cmd rfl rfl rfl, decode_of_encode_cmd rfl rfl rfl,
    decode_of_encode_cmd rfl rfl trivial, decode_of_encode_cmd rfl rfl trivial, decode_of_encode_cmd rfl rfl rfl⟩

/-- Settles O8: it is the block's turn, and a legal request is its command. -/
theorem stepRunsDecodedCommand : Obligations.StepRunsDecodedCommand := by
  intro s r i hturn hdecode
  obtain ⟨hrst, hreq, hhost⟩ := hturn
  exact (step_execute hrst hreq hhost).trans (execute_instr hdecode s)

/-- A request just placed at the port has the block's turn next (R280). -/
theorem blockTurn_loadRequest (r : Request) (s : State) : BlockTurn (s.loadRequest r) r := by
  refine ⟨rfl, rfl, ?_⟩
  unfold State.loadRequest
  split
  · simp
  · next hmoves =>
    intro h
    obtain ⟨rest, hrest⟩ := List.head?_eq_some_iff.mp h
    exact hmoves rest hrest

/-- Settles O9: the placed word is in flight at the block's turn. -/
theorem stepRunsPlacedWord : Obligations.StepRunsPlacedWord := by
  intro s nbits w i h
  refine stepRunsDecodedCommand _ _ i (blockTurn_loadRequest _ s) ?_
  unfold decodeTableWord at h
  split at h
  · next hdecode => cases h; exact hdecode
  · cases h

/-- Settles O12: the block's turn executes a request and the host's turn is a state. -/
theorem stepAlwaysAnswers : Obligations.StepAlwaysAnswers := by
  intro s
  obtain ⟨r, -, -, -, hblock⟩ | hturn := step_cases s
  · exact hblock ▸ execute_next r s
  · exact ⟨_, hturn⟩

end Sys2Proof.Machine
end

section
/-! SUPPORT. The host's turn, one rule per move, and the life of one request at the port (`30_encoding.md` R81,
`70_reset_and_hazards.md` R270, R271, R275, R281). -/

namespace Sys2Proof.Machine

open Sys2Proof.Safety

variable {s : State} {r : Request} {p : Response} {rest : List HostMove}

/-- With no move left the block holds its state (R254). -/
theorem hostTurn_nil (h : s.host = []) : hostTurn s = s := by simp [hostTurn, h]

/-- A request transfers when the block is ready (R80, R81). -/
theorem hostTurn_request (h : s.host = .request r :: rest) (hready : s.ready = true) :
    hostTurn s = (s.setHost rest).accept r := by simp [hostTurn, h, hready]

/-- A request waits while the block is not ready (R275). -/
theorem hostTurn_request_held (h : s.host = .request r :: rest) (hready : s.ready = false) : hostTurn s = s := by
  simp [hostTurn, h, hready]

/-- A response that is offered is taken (R275). -/
theorem hostTurn_take (h : s.host = .take :: rest) (hrsp : s.rsp = some p) :
    hostTurn s = (s.setHost rest).takeResponse p := by simp [hostTurn, h, hrsp]

/-- A take waits while no response is offered. -/
theorem hostTurn_take_held (h : s.host = .take :: rest) (hrsp : s.rsp = none) : hostTurn s = s := by
  simp [hostTurn, h, hrsp]

/-- `rst` is asserted (R270). -/
theorem hostTurn_assertRst (h : s.host = .assertRst :: rest) : hostTurn s = (s.setHost rest).assertReset := by
  simp [hostTurn, h]

/-- `rst` is released (R271). -/
theorem hostTurn_releaseRst (h : s.host = .releaseRst :: rest) : hostTurn s = (s.setHost rest).releaseReset := by
  simp [hostTurn, h]

/-- The host lets a turn pass. -/
theorem hostTurn_wait (h : s.host = .wait :: rest) : hostTurn s = s.setHost rest := by simp [hostTurn, h]

/-- The block is ready exactly when its port is free (R81, R270, R275). -/
theorem ready_iff_free (s : State) : s.ready = true ↔ Free s := by
  simp [State.ready, Free, and_assoc]

/-- A free port accepts the request offered. -/
theorem step_request (hfree : Free s) (h : s.host = .request r :: rest) :
    step s = .next ((s.setHost rest).accept r) := by
  rw [step_host (.inr (.inl hfree.2.1)), hostTurn_request h ((ready_iff_free s).mpr hfree)]

/-- Settles O42: the assertion of `rst` is the host's turn, and under `rst` the block is never ready. -/
theorem resetRule : Obligations.ResetRule := by
  refine ⟨fun s rest h => ?_, fun s r rest hrst h => ?_⟩
  · refine ⟨_, step_host (.inr (.inr (by rw [h]; rfl))), ?_⟩
    rw [hostTurn_assertRst h]
    exact ⟨rfl, rfl, rfl, rfl, rfl, rfl, rfl, rfl, rfl, rfl, rfl, rfl, rfl, rfl⟩
  · rw [step_host (.inl hrst), hostTurn_request_held h (by simp [State.ready, hrst])]

/-- Settles O43: the release leaves the port free. -/
theorem readyAfterReset : Obligations.ReadyAfterReset := by
  intro s r rest hrst hreq hrsp h
  have hrelease : step s = .next ((s.setHost (.request r :: rest)).releaseReset) := by
    rw [step_host (.inl hrst), hostTurn_releaseRst h]
  exact ⟨_, _, hrelease, step_request ⟨rfl, hreq, hrsp⟩ rfl, rfl, rfl, rfl, rfl, rfl⟩

/-- Settles O44: a waiting response holds the port, and the port is free once it is taken. -/
theorem heldUntilResponseTaken : Obligations.HeldUntilResponseTaken := by
  intro s p r rest hrst hreq hrsp
  refine ⟨fun h => ?_, fun h => ?_⟩
  · rw [step_host (.inr (.inl hreq)), hostTurn_request_held h (by simp [State.ready, hrsp])]
  · have htake : step s = .next ((s.setHost (.request r :: rest)).takeResponse p) := by
      rw [step_host (.inr (.inl hreq)), hostTurn_take h hrsp]
    exact ⟨_, htake, rfl, rfl, rfl, rfl, rfl, _, step_request ⟨hrst, hreq, rfl⟩ rfl, rfl, rfl⟩

/-- What the host's turn does to the request in flight: a request is accepted by a free port, an assertion of `rst` drops
the one in flight, and every other move keeps it. -/
theorem hostTurn_inFlight (s : State) :
    (∃ r rest, Free s ∧ s.host = .request r :: rest ∧ (hostTurn s).inFlight = some r ∧ (hostTurn s).host = rest) ∨
    (s.host.head? = some .assertRst ∧ (hostTurn s).inFlight = none) ∨
    (hostTurn s).inFlight = s.inFlight := by
  unfold hostTurn
  split
  case h_1 | h_5 | h_6 => exact .inr (.inr rfl)
  case h_2 r rest h =>
    by_cases hready : s.ready = true
    · rw [if_pos hready]
      exact .inl ⟨r, rest, (ready_iff_free s).mp hready, h, rfl, rfl⟩
    · rw [if_neg hready]
      exact .inr (.inr rfl)
  case h_3 => split <;> exact .inr (.inr rfl)
  case h_4 rest h => exact .inr (.inl ⟨by rw [h]; rfl, rfl⟩)

/-- Executing a request, legal or not, takes it off the port, leaves one response there, and leaves the host and `rst`
alone (R81). -/
theorem execute_answers (r : Request) (s : State) : ∃ t p, execute r s = .next t ∧ t.inFlight = none ∧ t.rsp = some p ∧
    t.rst = s.rst ∧ t.host = s.host ∧ t.taken = s.taken := by
  cases hd : decode r with
  | instr i => exact execute_instr hd s ▸ exec_answers i s
  | illegal why => exact ⟨_, _, execute_illegal hd s, rfl, rfl, rfl, rfl, rfl⟩

/-- At the block's turn the request is answered. -/
theorem step_answered {t : State} (hstep : step s = .next t) (hturn : BlockTurn s r) :
    t.inFlight = none ∧ t.rsp.isSome = true := by
  obtain ⟨hrst, hreq, hhost⟩ := hturn
  obtain ⟨t', p, ht', hnone, hrsp, -⟩ := execute_answers r s
  cases hstep.symm.trans ((step_execute hrst hreq hhost).trans ht')
  exact ⟨hnone, by rw [hrsp]; rfl⟩

/-- Settles O45: the block's turn only answers, and the host's turn only accepts at a free port or drops by `rst`. -/
theorem strictlySequentialPort : Obligations.StrictlySequentialPort := by
  refine ⟨fun s t r hstep hne hr => ?_, fun s t r hstep hturn => step_answered hstep hturn,
    fun s t r hstep hr hne => ?_, fun s hhost hidle => ?_⟩
  · obtain ⟨r', hrst, hreq, hhost, -⟩ | hturn := step_cases s
    · rw [(step_answered hstep ⟨hrst, hreq, hhost⟩).1] at hr
      cases hr
    · cases hstep.symm.trans hturn
      obtain ⟨r', rest, ⟨hrst, hreq, hrsp⟩, hhost, hin, hrest⟩ | ⟨-, hin⟩ | hin := hostTurn_inFlight s
      · cases hin.symm.trans hr
        exact ⟨hreq, hrsp, hrst, rest, hhost, hrest⟩
      · cases hin.symm.trans hr
      · exact absurd (hin.symm.trans hr) hne
  · obtain ⟨r', hrst, hreq, hhost, -⟩ | hturn := step_cases s
    · obtain ⟨hnone, hrsp⟩ := step_answered hstep ⟨hrst, hreq, hhost⟩
      exact ⟨hnone, .inl hrsp⟩
    · cases hstep.symm.trans hturn
      obtain ⟨r', rest, ⟨-, hreq, -⟩, -⟩ | ⟨hassert, hin⟩ | hin := hostTurn_inFlight s
      · cases hreq.symm.trans hr
      · exact ⟨hin, .inr hassert⟩
      · exact absurd (hin.trans hr) hne
  · rw [step_host (hidle.elim (.inr ∘ .inl) .inl), hostTurn_nil hhost]

/-- From two states that agree on every engine a request is answered alike and leaves the engines alike. -/
theorem execute_sameOutcome {s' t t' : State} (hread : ∀ v, s.engine v = s'.engine v) (h : execute r s = .next t)
    (h' : execute r s' = .next t') : SameOutcome s s' t t' := by
  cases hd : decode r with
  | instr i =>
    rw [execute_instr hd] at h h'
    exact exec_sameOutcome (fun v _ => hread v) h h'
  | illegal why =>
    cases (execute_illegal hd s).symm.trans h
    cases (execute_illegal hd s').symm.trans h'
    exact .of_respond rfl

/-- A request sent to a free port and its response taken are three steps: accepted, executed on the engines as they are,
taken (R81, R274, R275). -/
theorem run_transaction (hfree : Free s) (hhost : s.host = .request r :: .take :: rest) :
    ∃ t p u, execute r s = .next t ∧ t.rsp = some p ∧ (∀ k, core.run (k + 3) s = core.run k u) ∧
      Free u ∧ u.host = rest ∧ u.taken = s.taken ++ [p] ∧ ∀ v, u.engine v = t.engine v := by
  obtain ⟨t, ht⟩ := execute_next r s
  obtain ⟨done, p, hdone, hreq, hrsp, hrst, hrest, htaken⟩ :=
    execute_answers r ((s.setHost (.take :: rest)).accept r)
  have hsame := execute_sameOutcome (fun v => by cases v <;> rfl) ht hdone
  have haccept := step_request hfree hhost
  have hexecute := (step_execute (s := (s.setHost (.take :: rest)).accept r) hfree.1 rfl (by simp)).trans hdone
  have htake : step done = .next ((done.setHost rest).takeResponse p) := by
    rw [step_host (.inr (.inl hreq)), hostTurn_take hrest hrsp]
  refine ⟨t, p, (done.setHost rest).takeResponse p, ht, hsame.rsp.trans hrsp,
    fun k => by rw [run_succ haccept, run_succ hexecute, run_succ htake], ⟨hrst.trans hfree.1, hreq, rfl⟩, rfl,
    by simp [htaken], fun v => ?_⟩
  have hengine := (hsame.engine v (by cases v <;> rfl)).symm
  cases v <;> exact hengine

/-- Settles O46: one transaction for each request. -/
theorem everyRequestAnswered : Obligations.EveryRequestAnswered := by
  intro s requests hfree hhost
  suffices h : ∀ s, Free s → s.host = hostScript requests →
      ∃ t, core.run (3 * requests.length) s = .next t ∧ Free t ∧ t.host = [] ∧
        ∃ responses, t.taken = s.taken ++ responses ∧ responses.length = requests.length from
    h (s.setHost (hostScript requests)) hfree rfl
  clear s hfree hhost
  induction requests with
  | nil => exact fun s hfree hhost => ⟨s, rfl, hfree, hhost, [], by simp, rfl⟩
  | cons r requests ih =>
    intro s hfree hhost
    obtain ⟨-, p, u, -, -, hrun, hfree', hhost', htaken, -⟩ := run_transaction hfree hhost
    obtain ⟨t, ht, hfree'', hhost'', responses, htaken', hlen⟩ := ih u hfree' hhost'
    exact ⟨t, (hrun _).trans ht, hfree'', hhost'', p :: responses, by simp [htaken', htaken], by simp [hlen]⟩

end Sys2Proof.Machine
end

section
/-! SUPPORT. The invariant of the machine (`10_state.md` R38, `30_encoding.md` R81, `70_reset_and_hazards.md` R270): it holds
at reset, and each move of an engine and each turn at the port keeps it. -/

namespace Sys2Proof.Safety

open Sys2Proof.Machine

variable {w l cap tw : Nat}

/-- A reset engine is consistent (R41). -/
theorem engineConsistent_reset (w l cap tw : Nat) : EngineConsistent (Engine.reset w l cap tw) :=
  ⟨by simp, fun _ => rfl⟩

/-- TLEN and LEN advance together, since the block size divides 2^64 (R38). -/
theorem EngineConsistent.absorb {e : Engine w l cap tw} (hw : 2 ^ tw = cap + 1) (htw : tw ≤ 64) (hc : EngineConsistent e)
    (ha : e.state = .active) (ps : List (LaneParams w l)) (chunk : List Byte) :
    EngineConsistent (e.absorb ps chunk) := by
  have hdvd : cap + 1 ∣ 2 ^ 64 := hw ▸ Nat.pow_dvd_pow 2 htw
  refine ⟨?_, fun h => absurd (ha.symm.trans h) (by decide)⟩
  rw [Engine.absorb_tlen hw, hc.1, Engine.absorb_len, BitVec.toNat_add, BitVec.toNat_ofNat, Nat.add_mod_mod,
    Nat.mod_mod_of_dvd _ hdvd, Nat.mod_add_mod]

/-- Every move of a command keeps an engine consistent (R38). -/
theorem EngineConsistent.move {init : BitVec w → Instr} {write : List Byte → Instr} {finish i : Instr}
    {ps : List (LaneParams w l)} {e e' : Engine w l cap tw} (hw : 2 ^ tw = cap + 1) (htw : tw ≤ 64)
    (hc : EngineConsistent e) (m : EngineMove init write finish ps i e e') : EngineConsistent e' := by
  cases m with
  | kept => exact hc
  | loaded seed => exact ⟨by simp, Lifecycle.noConfusion⟩
  | absorbed chunk hi ha => exact hc.absorb hw htw ha ps chunk
  | finalized => exact ⟨hc.1, Lifecycle.noConfusion⟩

/-- An accepted request moves the engines as some command does: a refusal moves none (R244). -/
theorem execute_engineMoves {r : Request} {s t : State} (h : execute r s = .next t) : ∃ i, EngineMoves i s t := by
  cases hd : decode r with
  | instr i => exact ⟨i, exec_engineMoves ((execute_instr hd s).symm.trans h)⟩
  | illegal why =>
    cases (execute_illegal hd s).symm.trans h
    exact ⟨.nop, .of_respond .nop .illegal 0 s⟩

/-- The block's turn keeps the invariant: the request is answered, and `rst` is released (R81). -/
theorem StateConsistent.execute {r : Request} {s t : State} (hc : StateConsistent s) (hrst : s.rst = false)
    (h : execute r s = .next t) : StateConsistent t := by
  obtain ⟨i, mh32, mx86, mx64⟩ := execute_engineMoves h
  obtain ⟨t', p, ht', hreq, -, hrst', -⟩ := execute_answers r s
  cases h.symm.trans ht'
  exact ⟨hc.h32.move rfl (by decide) mh32, hc.x86.move rfl (by decide) mx86,
    hc.x64.move rfl (by decide) mx64, .inl hreq, fun h => absurd (hrst'.symm.trans h) (by simp [hrst])⟩

/-- The invariant does not read the host's moves. -/
theorem StateConsistent.setHost {s : State} (hc : StateConsistent s) (moves : List HostMove) :
    StateConsistent (s.setHost moves) := ⟨hc.h32, hc.x86, hc.x64, hc.oneOpen, hc.inReset⟩

/-- The host's turn keeps the invariant: a request is accepted only by a free port, and `rst` clears everything (R270). -/
theorem StateConsistent.hostTurn {s : State} (hc : StateConsistent s) : StateConsistent (hostTurn s) := by
  rcases hhost : s.host with - | ⟨move, rest⟩
  · rwa [hostTurn_nil hhost]
  cases move with
  | request r =>
    cases hready : s.ready with
    | false => rwa [hostTurn_request_held hhost hready]
    | true =>
      obtain ⟨hrst, -, hrsp⟩ := (ready_iff_free s).mp hready
      rw [hostTurn_request hhost hready]
      exact ⟨hc.h32, hc.x86, hc.x64, .inr hrsp, fun h => absurd (hrst.symm.trans h) (by decide)⟩
  | take =>
    cases hrsp : s.rsp with
    | none => rwa [hostTurn_take_held hhost hrsp]
    | some p =>
      rw [hostTurn_take hhost hrsp]
      refine ⟨hc.h32, hc.x86, hc.x64, .inr rfl, fun h => ?_⟩
      obtain ⟨hh32, hx86, hx64, hreq, -⟩ := hc.inReset h
      exact ⟨hh32, hx86, hx64, hreq, rfl⟩
  | assertRst =>
    rw [hostTurn_assertRst hhost]
    exact ⟨engineConsistent_reset 32 1 3 2, engineConsistent_reset 32 4 15 4, engineConsistent_reset 64 2 15 4, .inl rfl,
      fun _ => ⟨rfl, rfl, rfl, rfl, rfl⟩⟩
  | releaseRst =>
    rw [hostTurn_releaseRst hhost]
    exact ⟨hc.h32, hc.x86, hc.x64, hc.oneOpen, Bool.noConfusion⟩
  | wait =>
    rw [hostTurn_wait hhost]
    exact hc.setHost rest

/-- Settles O38: reset engines, a free port, `rst` released. -/
theorem resetStateConsistent : Obligations.ResetStateConsistent :=
  ⟨engineConsistent_reset 32 1 3 2, engineConsistent_reset 32 4 15 4, engineConsistent_reset 64 2 15 4, .inl rfl,
    Bool.noConfusion⟩

/-- Settles O39: a step is the block's turn, with `rst` released, or the host's. -/
theorem stepKeepsConsistency : Obligations.StepKeepsConsistency := by
  intro s t hc h
  obtain ⟨r, hrst, -, -, hblock⟩ | hturn := step_cases s
  · exact hc.execute hrst (hblock.symm.trans h)
  · cases hturn.symm.trans h
    exact hc.hostTurn

end Sys2Proof.Safety
end

section
/-! SUPPORT. What no host can see (`10_state.md` R35, R40, `42_finalization.md` R204, `70_reset_and_hazards.md` R272): the
engine's operations, the commands and the turns take two states that look alike to two states that look alike. -/

namespace Sys2Proof.Safety

open Sys2Proof.Machine

variable {w l cap tw : Nat} {e f : Engine w l cap tw}

namespace SameEngine

/-- STATUS reports the same (R40). -/
theorem statusWord_eq (h : SameEngine e f) : statusWord e = statusWord f := by
  obtain ⟨hstate, htlen, hlen, -⟩ := h
  rw [statusWord, statusWord, hstate, htlen, hlen]

/-- Once ACTIVE, the lanes and the valid tail are the same. -/
theorem of_active (h : SameEngine e f) (ha : e.state = .active) : e.h = f.h ∧ e.tail = f.tail :=
  h.2.2.2 (by rw [ha]; exact Lifecycle.noConfusion)

/-- INIT sets all that later commands read (R154). -/
theorem init (seed : BitVec w) : SameEngine (e.init seed) (f.init seed) :=
  ⟨rfl, rfl, rfl, fun _ => ⟨rfl, by rw [Engine.tail_init, Engine.tail_init]⟩⟩

/-- The absorb reads the lanes, the valid tail, TLEN and LEN (R151). -/
theorem absorb (hw : 2 ^ tw = cap + 1) (h : SameEngine e f) (ha : e.state = .active) (ps : List (LaneParams w l))
    (chunk : List Byte) : SameEngine (e.absorb ps chunk) (f.absorb ps chunk) := by
  obtain ⟨hlanes, htail⟩ := h.of_active ha
  obtain ⟨hstate, htlen, hlen, -⟩ := h
  refine ⟨hstate, BitVec.eq_of_toNat_eq ?_, congrArg (· + _) hlen, fun _ => ⟨?_, ?_⟩⟩
  · rw [Engine.absorb_tlen hw, Engine.absorb_tlen hw, htlen]
  · rw [Engine.absorb_h, Engine.absorb_h, hlanes, htail]
  · rw [Engine.absorb_tail hw, Engine.absorb_tail hw, htail]

/-- FINISH writes STATE alone (R201). -/
theorem finalize (h : SameEngine e f) (ha : e.state = .active) : SameEngine e.finalize f.finalize :=
  ⟨rfl, h.2.1, h.2.2.1, fun _ => h.of_active ha⟩

/-- Finalization reads the lanes, the valid tail and LEN (R204). -/
theorem digest_eq (h : SameEngine e f) (ha : e.state = .active)
    (final : Vector (BitVec w) l → List Byte → BitVec 64 → List Byte) :
    packBytes (final e.h e.tail e.len) = packBytes (final f.h f.tail f.len) := by
  obtain ⟨hlanes, htail⟩ := h.of_active ha
  rw [hlanes, htail, h.2.2.1]

end SameEngine

namespace SameVisible

variable {s t : State}

/-- The same answer is given. -/
theorem respond (h : SameVisible s t) (st : Status) {rd rd' : Data} (hrd : rd = rd') :
    SameVisible (s.respond st rd) (t.respond st rd') :=
  { h with inFlight := rfl, rsp := by rw [State.respond_rsp, State.respond_rsp, hrd] }

/-- E[0] is written alike. -/
theorem setH32 (h : SameVisible s t) {e f : EngineH32} (he : SameEngine e f) : SameVisible (s.setH32 e) (t.setH32 f) :=
  { h with h32 := he }

/-- E[1] is written alike. -/
theorem setX86 (h : SameVisible s t) {e f : EngineX86} (he : SameEngine e f) : SameVisible (s.setX86 e) (t.setX86 f) :=
  { h with x86 := he }

/-- E[2] is written alike. -/
theorem setX64 (h : SameVisible s t) {e f : EngineX64} (he : SameEngine e f) : SameVisible (s.setX64 e) (t.setX64 f) :=
  { h with x64 := he }

/-- The lifecycle check reads STATE, which is the same (R243). -/
theorem whenActive (h : SameVisible s t) {state state' : Lifecycle} {done done' : State} (hstate : state = state')
    (hdone : state = .active → SameVisible done done') :
    SameVisible (whenActive state done s) (whenActive state' done' t) := by
  subst hstate
  by_cases ha : state = .active
  · rw [whenActive_of_active done s ha, whenActive_of_active done' t ha]
    exact hdone ha
  · rw [whenActive_of_not_active done s ha, whenActive_of_not_active done' t ha]
    exact h.respond .seqErr rfl

/-- Every command takes states that look alike to states that look alike (R204, R272). -/
theorem exec {i : Instr} {s' t' : State} (h : SameVisible s t) (hs : exec i s = .next s') (ht : exec i t = .next t') :
    SameVisible s' t' := by
  cases i <;> cases hs <;> cases ht
  case nop => exact h.respond _ rfl
  case initH32 seed => exact (h.setH32 (.init seed)).respond _ rfl
  case initX86 seed => exact (h.setX86 (.init seed)).respond _ rfl
  case initX64 seed => exact (h.setX64 (.init seed)).respond _ rfl
  case writeH32 chunk =>
    exact h.whenActive h.h32.1 fun ha => (h.setH32 (h.h32.absorb rfl ha lanesH32 chunk)).respond _ rfl
  case writeX86 chunk =>
    exact h.whenActive h.x86.1 fun ha => (h.setX86 (h.x86.absorb rfl ha lanesX86 chunk)).respond _ rfl
  case writeX64 chunk =>
    exact h.whenActive h.x64.1 fun ha => (h.setX64 (h.x64.absorb rfl ha lanesX64 chunk)).respond _ rfl
  case finishH32 =>
    exact h.whenActive h.h32.1 fun ha => (h.setH32 (h.h32.finalize ha)).respond _ (h.h32.digest_eq ha finalH32)
  case finishX86 =>
    exact h.whenActive h.x86.1 fun ha => (h.setX86 (h.x86.finalize ha)).respond _ (h.x86.digest_eq ha finalX86)
  case finishX64 =>
    exact h.whenActive h.x64.1 fun ha => (h.setX64 (h.x64.finalize ha)).respond _ (h.x64.digest_eq ha finalX64)
  case statusH32 => exact h.respond _ h.h32.statusWord_eq
  case statusX86 => exact h.respond _ h.x86.statusWord_eq
  case statusX64 => exact h.respond _ h.x64.statusWord_eq

/-- A request is executed alike, legal or not. -/
theorem execute {r : Request} {s' t' : State} (h : SameVisible s t) (hs : execute r s = .next s')
    (ht : execute r t = .next t') : SameVisible s' t' := by
  cases hd : decode r with
  | instr i =>
    rw [execute_instr hd] at hs ht
    exact h.exec hs ht
  | illegal why =>
    cases (execute_illegal hd s).symm.trans hs
    cases (execute_illegal hd t).symm.trans ht
    exact h.respond .illegal rfl

/-- The host's moves are the same. -/
theorem setHost (h : SameVisible s t) (moves : List HostMove) : SameVisible (s.setHost moves) (t.setHost moves) :=
  { h with host := rfl }

/-- The block is ready in both states or in neither. -/
theorem ready_eq (h : SameVisible s t) : s.ready = t.ready := by
  rw [State.ready, State.ready, h.rst, h.inFlight, h.rsp]

/-- The host has the same turn. -/
theorem hostTurn (h : SameVisible s t) : SameVisible (hostTurn s) (hostTurn t) := by
  rcases hs : s.host with - | ⟨move, rest⟩ <;> have ht := h.host.symm.trans hs
  · rwa [hostTurn_nil hs, hostTurn_nil ht]
  cases move with
  | request r =>
    cases hready : s.ready with
    | false => rwa [hostTurn_request_held hs hready, hostTurn_request_held ht (h.ready_eq ▸ hready)]
    | true =>
      rw [hostTurn_request hs hready, hostTurn_request ht (h.ready_eq ▸ hready)]
      exact { h.setHost rest with inFlight := rfl }
  | take =>
    cases hrsp : s.rsp with
    | none => rwa [hostTurn_take_held hs hrsp, hostTurn_take_held ht (h.rsp ▸ hrsp)]
    | some p =>
      rw [hostTurn_take hs hrsp, hostTurn_take ht (h.rsp ▸ hrsp)]
      exact { h.setHost rest with rsp := rfl, taken := congrArg (· ++ [p]) h.taken }
  | assertRst =>
    rw [hostTurn_assertRst hs, hostTurn_assertRst ht]
    exact ⟨⟨rfl, rfl, rfl, fun _ => ⟨rfl, rfl⟩⟩, ⟨rfl, rfl, rfl, fun _ => ⟨rfl, rfl⟩⟩,
      ⟨rfl, rfl, rfl, fun _ => ⟨rfl, rfl⟩⟩, rfl, rfl, rfl, rfl, h.taken⟩
  | releaseRst =>
    rw [hostTurn_releaseRst hs, hostTurn_releaseRst ht]
    exact { h.setHost rest with rst := rfl }
  | wait =>
    rw [hostTurn_wait hs, hostTurn_wait ht]
    exact h.setHost rest

/-- The two states step, and look alike again. -/
theorem step (h : SameVisible s t) : ∃ s' t', step s = .next s' ∧ step t = .next t' ∧ SameVisible s' t' := by
  by_cases hturn : s.rst = true ∨ s.inFlight = none ∨ s.host.head? = some .assertRst
  · exact ⟨_, _, step_host hturn, step_host (by rwa [← h.rst, ← h.inFlight, ← h.host]), h.hostTurn⟩
  · simp only [not_or, Bool.not_eq_true, Option.ne_none_iff_exists'] at hturn
    obtain ⟨hrst, ⟨r, hreq⟩, hhost⟩ := hturn
    obtain ⟨s', hs'⟩ := execute_next r s
    obtain ⟨t', ht'⟩ := execute_next r t
    exact ⟨s', t', (step_execute hrst hreq hhost).trans hs',
      (step_execute (h.rst ▸ hrst) (h.inFlight ▸ hreq) (h.host ▸ hhost)).trans ht', h.execute hs' ht'⟩

/-- Any number of steps keeps the two states alike. -/
theorem run (h : SameVisible s t) (k : Nat) :
    ∃ u v, core.run k s = .next u ∧ core.run k t = .next v ∧ SameVisible u v := by
  induction k generalizing s t with
  | zero => exact ⟨s, t, rfl, rfl, h⟩
  | succ k ih =>
    obtain ⟨s', t', hs, ht, h'⟩ := h.step
    rw [run_succ hs, run_succ ht]
    exact ih h'

/-- The host has seen the same (R283). -/
theorem observe_eq (h : SameVisible s t) : observe s = observe t := by
  rw [observe, observe, h.taken, h.h32.statusWord_eq, h.x86.statusWord_eq, h.x64.statusWord_eq]

end SameVisible

/-- Settles O40: the observation and the step of two states that look alike. -/
theorem unspecifiedValuesUnobservable : Obligations.UnspecifiedValuesUnobservable :=
  fun _ _ h => ⟨h.observe_eq, h.step⟩

/-- Settles O41: at reset every engine is UNINIT, so the two states look alike whatever H and TBUF hold. -/
theorem resetValuesUnobservable : Obligations.ResetValuesUnobservable := by
  intro k moves h0 h1 h2 b0 b1 b2 s t
  have hsame : SameVisible s t :=
    ⟨⟨rfl, rfl, rfl, absurd rfl⟩, ⟨rfl, rfl, rfl, absurd rfl⟩, ⟨rfl, rfl, rfl, absurd rfl⟩, rfl, rfl, rfl, rfl, rfl⟩
  obtain ⟨u, v, hu, hv, h⟩ := hsame.run k
  exact ⟨u, v, hu, hv, h.observe_eq⟩

end Sys2Proof.Safety
end

section
/-! SUPPORT. The three engines by one description (`41_streaming.md` R154, R151, `42_finalization.md` R201): where the state
keeps the engine, its commands, and what INIT, WRITE and FINISH do to it, so that what all three have in common is proved
once. -/

namespace Sys2Proof.Machine

open Sys2Proof.Safety

/-- One of the three engines: its parameters, its place in the state, and its commands with their effect. -/
structure EngineRow (w l cap tw : Nat) where
  /-- Which of the three. -/
  variant : Variant
  /-- The constants of its lanes. -/
  lanes : List (LaneParams w l)
  /-- Its finalization: lanes, valid tail and LEN to digest bytes. -/
  final : Vector (BitVec w) l → List Byte → BitVec 64 → List Byte
  /-- Its record in the state. -/
  get : State → Engine w l cap tw
  /-- Its record replaced. -/
  set : Engine w l cap tw → State → State
  /-- Its INIT. -/
  init : BitVec w → Instr
  /-- Its WRITE. -/
  write : List Byte → Instr
  /-- Its FINISH. -/
  finish : Instr
  /-- TLEN's width is that of the block size (R36). -/
  tlenWidth : 2 ^ tw = cap + 1 := by rfl
  /-- The record written is read back. -/
  get_set : ∀ e s, get (set e s) = e := by intros; rfl
  /-- Writing the record that stands there changes nothing. -/
  set_get : ∀ s, set (get s) s = s := by intros; rfl
  /-- A response writes no engine (R16). -/
  get_respond : ∀ st rd s, get (s.respond st rd) = get s := by intros; rfl
  /-- The record is the variant's. -/
  get_congr : ∀ {s t : State}, s.engine variant = t.engine variant → get s = get t := by exact id
  /-- INIT in every STATE (R154). -/
  exec_init : ∀ seed s, exec (init seed) s = .next ((set ((get s).init seed) s).respond .ok 0) := by intros; rfl
  /-- WRITE behind the lifecycle check (R151). -/
  exec_write : ∀ chunk s, exec (write chunk) s =
    .next (whenActive (get s).state ((set ((get s).absorb lanes chunk) s).respond .ok 0) s) := by intros; rfl
  /-- FINISH behind the lifecycle check (R201). -/
  exec_finish : ∀ s, exec finish s = .next (whenActive (get s).state
    ((set (get s).finalize s).respond .ok (packBytes (final (get s).h (get s).tail (get s).len))) s) := by intros; rfl
  /-- INIT addresses the engine. -/
  target_init : ∀ seed, target (init seed) = some variant := by intros; rfl
  /-- WRITE addresses the engine. -/
  target_write : ∀ chunk, target (write chunk) = some variant := by intros; rfl
  /-- FINISH addresses the engine. -/
  target_finish : target finish = some variant := by rfl
  /-- INIT has no bound on its operand. -/
  wellFormed_init : ∀ seed, (init seed).wellFormed = true := by intros; rfl
  /-- WRITE carries at most 16 bytes (R86). -/
  wellFormed_write : ∀ chunk, chunk.length ≤ 16 → (write chunk).wellFormed = true := by exact fun _ => decide_eq_true
  /-- FINISH has no operand. -/
  wellFormed_finish : finish.wellFormed = true := by rfl

/-- E[0], Hasher32. -/
def rowH32 : EngineRow 32 1 3 2 where
  variant := .h32
  lanes := lanesH32
  final := finalH32
  get := State.h32
  set := State.setH32
  init := .initH32
  write := .writeH32
  finish := .finishH32

/-- E[1], Hasher128x86. -/
def rowX86 : EngineRow 32 4 15 4 where
  variant := .x86
  lanes := lanesX86
  final := finalX86
  get := State.x86
  set := State.setX86
  init := .initX86
  write := .writeX86
  finish := .finishX86

/-- E[2], Hasher128x64. -/
def rowX64 : EngineRow 64 2 15 4 where
  variant := .x64
  lanes := lanesX64
  final := finalX64
  get := State.x64
  set := State.setX64
  init := .initX64
  write := .writeX64
  finish := .finishX64

namespace EngineRow

variable {w l cap tw : Nat} (row : EngineRow w l cap tw) {s : State}

/-- The record after it is written and the command answered. -/
theorem get_set_respond (e : Engine w l cap tw) (st : Status) (rd : Data) (s : State) :
    row.get ((row.set e s).respond st rd) = e := by rw [row.get_respond, row.get_set]

/-- WRITE to the ACTIVE engine absorbs its chunk (R151). -/
theorem exec_write_of_active (chunk : List Byte) (ha : (row.get s).state = .active) :
    exec (row.write chunk) s = .next ((row.set ((row.get s).absorb row.lanes chunk) s).respond .ok 0) := by
  rw [row.exec_write, whenActive_of_active _ s ha]

/-- FINISH of the ACTIVE engine answers its digest (R201). -/
theorem exec_finish_of_active (ha : (row.get s).state = .active) :
    exec row.finish s = .next ((row.set (row.get s).finalize s).respond .ok
      (packBytes (row.final (row.get s).h (row.get s).tail (row.get s).len))) := by
  rw [row.exec_finish, whenActive_of_active _ s ha]

/-- FINISH of an engine that is not ACTIVE is refused (R243). -/
theorem exec_finish_of_not_active (ha : (row.get s).state ≠ .active) :
    exec row.finish s = .next (answered s .seqErr 0) := by
  rw [row.exec_finish, whenActive_of_not_active _ s ha]
  rfl

end EngineRow

end Sys2Proof.Machine
end

section
/-! SUPPORT. WRITE and the repetition of commands (`41_streaming.md` R151, R158-R160, `20_memory.md` R70): what a WRITE to an
ACTIVE engine leaves, and which commands change something when they are sent again. -/

namespace Sys2Proof.Machine

open Sys2Proof.Safety

variable {w l cap tw : Nat} {ps : List (LaneParams w l)} {e f g : Engine w l cap tw}

/-- `f` is the engine `e` after the bytes `s`, LEN included. -/
structure Absorbed (ps : List (LaneParams w l)) (e : Engine w l cap tw) (s : List Byte) (f : Engine w l cap tw) :
    Prop extends Streamed ps e s f where
  /-- LEN counts every byte, modulo 2^64 (R9, R37). -/
  len : f.len = e.len + BitVec.ofNat 64 s.length

namespace Absorbed

/-- No bytes leave the engine as it is. -/
theorem nil (hw : 2 ^ tw = cap + 1) : Absorbed ps e [] e := { Streamed.nil hw with len := by simp }

/-- Two pieces one after another are one piece (R152). -/
theorem trans {s t : List Byte} (m : Absorbed ps e s f) (n : Absorbed ps f t g) : Absorbed ps e (s ++ t) g :=
  { m.toStreamed.trans n.toStreamed with
    len := by rw [n.len, m.len, List.length_append, BitVec.ofNat_add, BitVec.add_assoc] }

/-- One absorb (R151). -/
theorem absorb (hw : 2 ^ tw = cap + 1) (chunk : List Byte) : Absorbed ps e chunk (e.absorb ps chunk) :=
  { Streamed.absorb hw chunk with len := rfl }

/-- The bytes taken in say all that can be seen of the engine. -/
theorem sameEngine {s : List Byte} (m : Absorbed ps e s f) (n : Absorbed ps e s g) : SameEngine f g := by
  obtain ⟨hstate, hh, htail, htlen⟩ := m.toStreamed.same n.toStreamed
  exact ⟨hstate, htlen, m.len.trans n.len.symm, fun _ => ⟨hh, htail⟩⟩

/-- LEN as a number (R9). -/
theorem len_toNat {s : List Byte} (m : Absorbed ps e s f) : f.len.toNat = (e.len.toNat + s.length) % 2 ^ 64 := by
  rw [m.len, BitVec.toNat_add, BitVec.toNat_ofNat, Nat.add_mod_mod]

end Absorbed

/-- The statement of R158, R159 and R160 for the engine of a row. -/
theorem EngineRow.write_absorbs (row : EngineRow w l cap tw) {s : State} (chunk : List Byte)
    (ha : (row.get s).state = .active) :
    ∃ e, exec (row.write chunk) s = .next ((row.set e s).respond .ok 0) ∧ e.state = .active ∧
      e.h = streamLanes row.lanes (cap + 1) (row.get s).h ((row.get s).tail ++ chunk) ∧
      e.tail = streamTail (cap + 1) ((row.get s).tail ++ chunk) ∧
      e.tlen.toNat = ((row.get s).tlen.toNat + chunk.length) % (cap + 1) ∧
      e.len.toNat = ((row.get s).len.toNat + chunk.length) % 2 ^ 64 := by
  have m : Absorbed row.lanes (row.get s) chunk _ := .absorb row.tlenWidth chunk
  exact ⟨_, row.exec_write_of_active chunk ha, m.state.trans ha, m.h, m.tail, m.tlen, m.len_toNat⟩

/-- Settles O16: `EngineRow.write_absorbs` for E[0]. -/
theorem writeH32Absorbs : Obligations.WriteH32Absorbs := fun _ chunk ha => rowH32.write_absorbs chunk ha

/-- Settles O17: `EngineRow.write_absorbs` for E[1]. -/
theorem writeX86Absorbs : Obligations.WriteX86Absorbs := fun _ chunk ha => rowX86.write_absorbs chunk ha

/-- Settles O18: `EngineRow.write_absorbs` for E[2]. -/
theorem writeX64Absorbs : Obligations.WriteX64Absorbs := fun _ chunk ha => rowX64.write_absorbs chunk ha

/-- An empty chunk leaves the whole record as it is, the bytes above the tail too (R70, log entry 2). -/
theorem Engine.absorb_nil (hw : 2 ^ tw = cap + 1) (ps : List (LaneParams w l)) (e : Engine w l cap tw) :
    e.absorb ps [] = e := by
  have hshort : e.tail.length / (cap + 1) = 0 := Nat.div_eq_of_lt (e.tail_length_lt hw)
  have hstore : storeTail e.tbuf e.tail = e.tbuf := storeTail_self e.tbuf e.tlen.toNat
  simp only [Engine.absorb, List.append_nil, hshort, mixBlocks, hstore]
  simp [Engine.tail_length hw]

namespace EngineRow

variable (row : EngineRow w l cap tw) {s : State}

/-- An empty WRITE only answers (R70). -/
theorem exec_write_nil (ha : (row.get s).state = .active) : exec (row.write []) s = .next (answered s .ok 0) := by
  rw [row.exec_write_of_active [] ha, Engine.absorb_nil row.tlenWidth, row.set_get]
  rfl

/-- A WRITE of some bytes changes the engine each time: LEN advances (R70). -/
theorem write_twice {chunk : List Byte} (hpos : 0 < chunk.length) (hlen : chunk.length ≤ 16)
    (ha : (row.get s).state = .active) :
    ∃ t u, exec (row.write chunk) s = .next t ∧ exec (row.write chunk) t = .next u ∧ row.get u ≠ row.get t := by
  refine ⟨_, _, row.exec_write_of_active chunk ha,
    row.exec_write_of_active chunk (by rw [row.get_set_respond, Engine.absorb_state, ha]), fun h => ?_⟩
  rw [row.get_set_respond] at h
  have hzero : BitVec.ofNat 64 chunk.length = 0 := by simpa using congrArg Engine.len h
  have : chunk.length % 2 ^ 64 = 0 := congrArg BitVec.toNat hzero
  omega

/-- A second FINISH finds the engine not ACTIVE (R70, R243). -/
theorem finish_twice (s : State) :
    ∃ t, exec row.finish s = .next t ∧ exec row.finish t = .next (answered t .seqErr 0) := by
  by_cases ha : (row.get s).state = .active
  · exact ⟨_, row.exec_finish_of_active ha,
      row.exec_finish_of_not_active (by rw [row.get_set_respond]; exact Lifecycle.noConfusion)⟩
  · refine ⟨_, row.exec_finish_of_not_active ha, row.exec_finish_of_not_active ?_⟩
    rwa [← row.get_respond .seqErr 0 s] at ha

end EngineRow

/-- Settles O37: each kind of command by its rule. -/
theorem idempotentCommands : Obligations.IdempotentCommands := by
  refine ⟨fun s i hi => ?_, fun s seed seed64 i hi => ?_,
    fun s => ⟨rowH32.exec_write_nil, rowX86.exec_write_nil, rowX64.exec_write_nil⟩,
    fun s chunk hpos hlen => ⟨rowH32.write_twice hpos hlen, rowX86.write_twice hpos hlen, rowX64.write_twice hpos hlen⟩,
    fun s i hi => ?_⟩ <;> simp only [List.mem_cons, List.not_mem_nil, or_false] at hi
  · rcases hi with rfl | rfl | rfl | rfl <;> exact ⟨_, rfl, rfl, rfl, rfl⟩
  · rcases hi with rfl | rfl | rfl <;> exact ⟨_, rfl, rfl⟩
  · rcases hi with rfl | rfl | rfl
    · exact rowH32.finish_twice s
    · exact rowX86.finish_twice s
    · exact rowX64.finish_twice s

end Sys2Proof.Machine
end

section
/-! SUPPORT. Sequences of commands (`41_streaming.md` R152, `43_one_shot.md` R231, R232): their responses and what they leave,
on the engines alone and sent over the port; the WRITEs of any chunks absorb the chunks joined, and with INIT before and
FINISH after they answer the one-shot digest. -/

namespace Sys2Proof.Machine

open Sys2Proof.Safety

/-- The commands `is`, executed one after another from `s`, answer `ps` and leave `t`. -/
inductive Answers : List Instr → State → List Response → State → Prop
  /-- No command. -/
  | nil (s : State) : Answers [] s [] s
  /-- One command more, before the others. -/
  | cons {i : Instr} {s t u : State} {p : Response} {is : List Instr} {ps : List Response} (hexec : exec i s = .next t)
      (hrsp : t.rsp = some p) (htail : Answers is t ps u) : Answers (i :: is) s (p :: ps) u

namespace Answers

variable {is js : List Instr} {s t u : State} {ps qs : List Response}

/-- One command. -/
theorem one {i : Instr} {p : Response} (hexec : exec i s = .next t) (hrsp : t.rsp = some p) : Answers [i] s [p] t :=
  .cons hexec hrsp (.nil t)

/-- One sequence after another. -/
theorem append (m : Answers is s ps t) (n : Answers js t qs u) : Answers (is ++ js) s (ps ++ qs) u := by
  induction m with
  | nil => exact n
  | cons hexec hrsp _ ih => exact .cons hexec hrsp (ih n)

/-- The run of the commands ends in that state. -/
theorem runCommands_eq (m : Answers is s ps t) : runCommands is s = .next t := by
  induction m with
  | nil => rfl
  | cons hexec _ _ ih => rw [runCommands, hexec]; exact ih

/-- An engine that no command addresses keeps its record (R46). -/
theorem engine_eq (m : Answers is s ps t) {v : Variant} (hne : ∀ i ∈ is, target i ≠ some v) :
    t.engine v = s.engine v := by
  induction m with
  | nil => rfl
  | cons hexec _ _ ih =>
    simp only [List.forall_mem_cons] at hne
    exact (ih hne.2).trans (exec_engine_of_target_ne hexec hne.1)

/-- The commands sent over a free port, each response taken: the host gets those responses, and the engines end as those
commands leave them (R81, R283). -/
theorem over_port (m : Answers is s ps t) (hwf : ∀ i ∈ is, i.wellFormed = true) {s' : State}
    (hengine : ∀ v, s'.engine v = s.engine v) (hfree : Free s') (hhost : s'.host = hostScript (is.map encode)) :
    ∃ t', core.run (3 * is.length) s' = .next t' ∧ Free t' ∧ t'.taken = s'.taken ++ ps ∧
      ∀ v, t'.engine v = t.engine v := by
  induction m generalizing s' with
  | nil => exact ⟨s', rfl, hfree, by simp, hengine⟩
  | @cons i s t u p is ps hexec hrsp _ ih =>
    simp only [List.forall_mem_cons] at hwf
    obtain ⟨d, q, s'', hd, hq, hrun, hfree'', hhost'', htaken, hengine''⟩ := run_transaction hfree hhost
    rw [execute_instr (decodeOfEncode i hwf.1)] at hd
    have hsame := exec_sameOutcome (fun v _ => hengine v) hd hexec
    obtain ⟨t', ht', hfree', htaken', hengine'⟩ :=
      ih hwf.2 (fun v => (hengine'' v).trans (hsame.engine v (hengine v))) hfree'' hhost''
    cases hq.symm.trans (hsame.rsp.trans hrsp)
    exact ⟨t', (hrun _).trans ht', hfree', by simp [htaken', htaken], hengine'⟩

end Answers

namespace EngineRow

variable {w l cap tw : Nat} (row : EngineRow w l cap tw)

/-- INIT, the WRITEs of the chunks, FINISH: the expansion of `hash` with any split of its input (R230, R231). -/
def hashCommands (seed : BitVec w) (chunks : List (List Byte)) : List Instr :=
  row.init seed :: (chunks.map row.write ++ [row.finish])

/-- The one-shot function of the row's engine: `oneShotH32`, `oneShotX86` and `oneShotX64` by unfolding (R232). -/
def oneShot (seed : BitVec w) (stream : List Byte) : Data :=
  packBytes (row.final (streamLanes row.lanes (cap + 1) (Vector.replicate l seed) stream) (streamTail (cap + 1) stream)
    (BitVec.ofNat 64 stream.length))

/-- A property of all the commands is one of INIT, of each WRITE and of FINISH. -/
theorem forall_mem_hashCommands {motive : Instr → Prop} {seed : BitVec w} {chunks : List (List Byte)}
    (init : motive (row.init seed)) (write : ∀ c ∈ chunks, motive (row.write c)) (finish : motive row.finish) :
    ∀ i ∈ row.hashCommands seed chunks, motive i := by
  simpa [hashCommands, or_imp, forall_and] using ⟨init, write, finish⟩

/-- WRITEs to an ACTIVE engine answer OK and absorb their chunks joined (R152). -/
theorem answers_writes (chunks : List (List Byte)) {s : State} (ha : (row.get s).state = .active) :
    ∃ t, Answers (chunks.map row.write) s (List.replicate chunks.length ⟨.ok, 0⟩) t ∧
      Absorbed row.lanes (row.get s) chunks.flatten (row.get t) := by
  induction chunks generalizing s with
  | nil => exact ⟨s, .nil s, .nil row.tlenWidth⟩
  | cons chunk chunks ih =>
    have hexec := row.exec_write_of_active chunk ha
    have m : Absorbed row.lanes (row.get s) chunk _ := .absorb row.tlenWidth chunk
    rw [← row.get_set_respond ((row.get s).absorb row.lanes chunk) .ok 0 s] at m
    obtain ⟨t, hanswers, n⟩ := ih (m.state.trans ha)
    exact ⟨t, .cons hexec rfl hanswers, m.trans n⟩

/-- R152 for the engine of a row. -/
theorem chunking (chunks : List (List Byte)) {s : State} (ha : (row.get s).state = .active) :
    ∃ t u t' u', runCommands (chunks.map row.write) s = .next t ∧ exec (row.write chunks.flatten) s = .next u ∧
      (row.get t).state = .active ∧ SameEngine (row.get t) (row.get u) ∧
      exec row.finish t = .next t' ∧ exec row.finish u = .next u' ∧ t'.rsp = u'.rsp := by
  obtain ⟨t, hanswers, m⟩ := row.answers_writes chunks ha
  have n : Absorbed row.lanes (row.get s) chunks.flatten _ := .absorb row.tlenWidth chunks.flatten
  rw [← row.get_set_respond ((row.get s).absorb row.lanes chunks.flatten) .ok 0 s] at n
  have hsame := m.sameEngine n
  have hat := m.state.trans ha
  refine ⟨t, _, _, _, hanswers.runCommands_eq, row.exec_write_of_active _ ha, hat, hsame,
    row.exec_finish_of_active hat, row.exec_finish_of_active (n.state.trans ha), ?_⟩
  rw [State.respond_rsp, State.respond_rsp, hsame.digest_eq hat row.final]

/-- INIT, WRITEs and FINISH answer OK, the last with the digest of the chunks joined, which is computed with no engine and
no chunks (R232); the engine ends FINALIZED with TLEN and LEN of the input. -/
theorem answers_hash (seed : BitVec w) (chunks : List (List Byte)) (s : State) :
    ∃ t, Answers (row.hashCommands seed chunks) s
        (List.replicate (chunks.length + 1) ⟨.ok, 0⟩ ++ [⟨.ok, row.oneShot seed chunks.flatten⟩]) t ∧
      (row.get t).state = .finalized ∧ (row.get t).len.toNat = chunks.flatten.length % 2 ^ 64 ∧
      (row.get t).tlen.toNat = chunks.flatten.length % (cap + 1) := by
  have hinit := row.exec_init seed s
  have hget := row.get_set_respond ((row.get s).init seed) .ok 0 s
  obtain ⟨t, hanswers, m⟩ := row.answers_writes chunks (s := (row.set ((row.get s).init seed) s).respond .ok 0)
    (by rw [hget, Engine.init_state])
  rw [hget] at m
  have hfinish := row.exec_finish_of_active m.state
  rw [m.h, m.tail, m.len, Engine.init_h, Engine.tail_init, Engine.init_len, List.nil_append, zero_add] at hfinish
  refine ⟨_, .cons hinit rfl (hanswers.append (.one hfinish rfl)), ?_⟩
  rw [row.get_set_respond]
  exact ⟨rfl, by simpa using m.len_toNat, by simpa using m.tlen⟩

/-- R231 and R232 for the engine of a row, over the port. -/
theorem one_shot (seed : BitVec w) (chunks : List (List Byte)) {s : State} (hfree : Free s)
    (hlen : ∀ c ∈ chunks, c.length ≤ 16) :
    ∃ t, core.run (3 * (chunks.length + 2)) (s.setHost (hostScript
        ((row.hashCommands seed chunks).map encode))) = .next t ∧
      t.taken = s.taken ++ List.replicate (chunks.length + 1) ⟨.ok, 0⟩ ++ [⟨.ok, row.oneShot seed chunks.flatten⟩] ∧
      (row.get t).state = .finalized ∧ (row.get t).len.toNat = chunks.flatten.length % 2 ^ 64 ∧
      (row.get t).tlen.toNat = chunks.flatten.length % (cap + 1) ∧
      (∀ v, v ≠ row.variant → t.engine v = s.engine v) ∧ Free t := by
  obtain ⟨t, hanswers, hstate, hlen', htlen⟩ := row.answers_hash seed chunks s
  have hwf := row.forall_mem_hashCommands (motive := fun i => i.wellFormed = true) (row.wellFormed_init seed)
    (fun c hc => row.wellFormed_write c (hlen c hc)) row.wellFormed_finish
  have htarget := row.forall_mem_hashCommands (motive := fun i => target i = some row.variant) (row.target_init seed)
    (fun c (_ : c ∈ chunks) => row.target_write c) row.target_finish
  obtain ⟨t', hrun, hfree', htaken, hengine⟩ := hanswers.over_port hwf
    (s' := s.setHost (hostScript ((row.hashCommands seed chunks).map encode))) (fun v => by cases v <;> rfl) hfree rfl
  rw [← row.get_congr (hengine row.variant)] at hstate hlen' htlen
  refine ⟨t', by simpa [hashCommands] using hrun, by simpa using htaken, hstate, hlen', htlen, fun v hv => ?_, hfree'⟩
  rw [hengine v]
  exact hanswers.engine_eq fun i hi => by simpa [htarget i hi] using hv.symm

/-- INIT and FINISH at once: the digest of no input. -/
theorem init_finish (seed : BitVec w) (s : State) :
    ∃ t, runCommands [row.init seed, row.finish] s = .next t ∧
      t.rsp = some ⟨.ok, packBytes (row.final (Vector.replicate l seed) [] 0)⟩ := by
  have hget := row.get_set_respond ((row.get s).init seed) .ok 0 s
  have hfinish := row.exec_finish_of_active (s := (row.set ((row.get s).init seed) s).respond .ok 0)
    (by rw [hget, Engine.init_state])
  rw [hget, Engine.init_h, Engine.tail_init, Engine.init_len] at hfinish
  exact ⟨_, (Answers.cons (row.exec_init seed s) rfl (.one hfinish rfl)).runCommands_eq, rfl⟩

end EngineRow

/-- Settles O21: `EngineRow.chunking` for each engine. -/
theorem chunkingInvariance : Obligations.ChunkingInvariance := fun _ chunks =>
  ⟨fun ha => rowH32.chunking chunks ha, fun ha => rowX86.chunking chunks ha, fun ha => rowX64.chunking chunks ha⟩

/-- Settles O47: `EngineRow.one_shot` for each engine, the other engines named. -/
theorem oneShotDigest : Obligations.OneShotDigest := by
  intro s chunks hfree _ hlen
  refine ⟨fun seed => ?_, fun seed => ?_, fun seed => ?_⟩
  · obtain ⟨t, hrun, htaken, hstate, hlen', htlen, hother, hfree'⟩ := rowH32.one_shot seed chunks hfree hlen
    exact ⟨t, hrun, htaken, hstate, hlen', htlen, hother .x86 (by decide), hother .x64 (by decide), hfree'⟩
  · obtain ⟨t, hrun, htaken, hstate, hlen', htlen, hother, hfree'⟩ := rowX86.one_shot seed chunks hfree hlen
    exact ⟨t, hrun, htaken, hstate, hlen', htlen, hother .h32 (by decide), hother .x64 (by decide), hfree'⟩
  · obtain ⟨t, hrun, htaken, hstate, hlen', htlen, hother, hfree'⟩ := rowX64.one_shot seed chunks hfree hlen
    exact ⟨t, hrun, htaken, hstate, hlen', htlen, hother .h32 (by decide), hother .x86 (by decide), hfree'⟩

/-- Settles O33: from zero lanes, no tail and LEN 0 every finalization gives zero bytes. -/
theorem emptyInputSeedZeroDigest : Obligations.EmptyInputSeedZeroDigest := by
  intro s
  have h32 : packBytes (finalH32 (Vector.replicate 1 0) [] 0) = 0 := by decide
  have x86 : packBytes (finalX86 (Vector.replicate 4 0) [] 0) = 0 := by decide
  have x64 : packBytes (finalX64 (Vector.replicate 2 0) [] 0) = 0 := by decide
  exact ⟨h32 ▸ rowH32.init_finish 0 s, x86 ▸ rowX86.init_finish 0 s, x64 ▸ rowX64.init_finish 0 s⟩

end Sys2Proof.Machine
end

section
/-! SUPPORT. The little-endian byte order on words (`00_scope.md` R13, `20_memory.md` R63-R65): bit i of a word is bit i mod 8
of byte i / 8, and from that how words split, and what the bytes of a word are. -/

namespace Sys2Proof.Machine

/-- Bit i of a little-endian value is in byte i / 8 (R13). -/
theorem leNat_testBit (bytes : List Byte) (i : Nat) :
    (leNat bytes).testBit i = (bytes.getD (i / 8) 0).getLsbD (i % 8) := by
  induction bytes generalizing i with
  | nil => simp [leNat]
  | cons b bs ih =>
    rw [leNat, Nat.add_comm, show 256 = 2 ^ 8 from rfl, Nat.testBit_two_pow_mul_add _ b.isLt]
    by_cases h : i < 8
    · rw [if_pos h, Nat.div_eq_of_lt h, Nat.mod_eq_of_lt h]
      rfl
    · rw [if_neg h, ih, Nat.div_eq_sub_div (by decide) (by omega : 8 ≤ i), List.getD_cons_succ,
        Nat.mod_eq_sub_mod (by omega : 8 ≤ i)]

/-- Bit i of a little-endian word (R13). -/
theorem leWord_getLsbD (w : Nat) (bytes : List Byte) (i : Nat) :
    (leWord w bytes).getLsbD i = (decide (i < w) && (bytes.getD (i / 8) 0).getLsbD (i % 8)) := by
  rw [leWord, BitVec.getLsbD_ofNat, leNat_testBit]

/-- Bytes that agree with zeros above them give the same word. -/
theorem leWord_congr {w : Nat} {bytes bytes' : List Byte} (h : ∀ i, bytes.getD i 0 = bytes'.getD i 0) :
    leWord w bytes = leWord w bytes' :=
  BitVec.eq_of_getLsbD_eq fun i _ => by rw [leWord_getLsbD, leWord_getLsbD, h]

/-- No bytes give zero. -/
@[simp] theorem leWord_nil (w : Nat) : leWord w [] = 0 := rfl

/-- The low k bytes of a word, and the bytes after them above. -/
theorem leWord_add (n k : Nat) (bytes : List Byte) :
    leWord (n + 8 * k) bytes = leWord n (bytes.drop k) ++ leWord (8 * k) bytes := by
  apply BitVec.eq_of_getLsbD_eq
  intro i hi
  rw [BitVec.getLsbD_append, leWord_getLsbD, leWord_getLsbD, leWord_getLsbD]
  by_cases h : i < 8 * k
  · simp [h, hi]
  · have hdiv : k + (i - 8 * k) / 8 = i / 8 := by omega
    have hmod : (i - 8 * k) % 8 = i % 8 := by omega
    have hlt : i - 8 * k < n := by omega
    simp [h, hi, hlt, hmod, hdiv, List.getD_eq_getElem?_getD]

/-- A word reads only its own bytes. -/
theorem leWord_take (k : Nat) (bytes : List Byte) : leWord (8 * k) (bytes.take k) = leWord (8 * k) bytes := by
  apply BitVec.eq_of_getLsbD_eq
  intro i hi
  have : i / 8 < k := by omega
  simp [leWord_getLsbD, List.getD_eq_getElem?_getD, this]

/-- The bytes of a word give the word back (R13). -/
theorem leWord_bytesLE {k : Nat} (v : BitVec (8 * k)) : leWord (8 * k) (bytesLE v) = v := by
  apply BitVec.eq_of_getLsbD_eq
  intro i hi
  have hbyte : i / 8 < k := by omega
  have hbit : 8 * (i / 8) + i % 8 = i := Nat.div_add_mod i 8
  have hlt : i % 8 < 8 := Nat.mod_lt i (by decide)
  rw [leWord_getLsbD]
  simp [bytesLE, List.getD_eq_getElem?_getD, hbyte, hbit, hlt, hi]

/-- The bytes of a word lie below the bytes after them. -/
theorem leWord_bytesLE_append (n : Nat) {k : Nat} (v : BitVec (8 * k)) (bytes : List Byte) :
    leWord (n + 8 * k) (bytesLE v ++ bytes) = leWord n bytes ++ v := by
  have hlen : (bytesLE v).length = k := by simp [bytesLE]
  rw [leWord_add, ← leWord_take, List.drop_left' hlen, List.take_left' hlen, leWord_bytesLE]

/-- One byte. -/
theorem leWord_byte (bytes : List Byte) : leWord 8 bytes = bytes.getD 0 0 := by
  apply BitVec.eq_of_getLsbD_eq
  intro i hi
  rw [leWord_getLsbD, Nat.div_eq_of_lt hi, Nat.mod_eq_of_lt hi, decide_eq_true hi, Bool.true_and]

/-- The lowest byte, and the others above it. -/
theorem leWord_add_byte (n : Nat) (bytes : List Byte) :
    leWord (n + 8) bytes = leWord n (bytes.drop 1) ++ bytes.getD 0 0 :=
  (leWord_add n 1 bytes).trans (congrArg (leWord n (bytes.drop 1) ++ ·) (leWord_byte bytes))

/-- The four bytes of a 32-bit word, the highest first (R13). -/
theorem leWord_32 (bytes : List Byte) :
    leWord 32 bytes = bytes.getD 3 0 ++ bytes.getD 2 0 ++ bytes.getD 1 0 ++ bytes.getD 0 0 := by
  have h32 := leWord_add_byte 24 bytes
  have h24 := leWord_add_byte 16 (bytes.drop 1)
  have h16 := leWord_add_byte 8 (bytes.drop 2)
  have h8 := leWord_byte (bytes.drop 3)
  simp only [List.drop_drop, List.getD_eq_getElem?_getD, List.getElem?_drop] at *
  rw [h32, h24, h16, h8]

/-- A 64-bit word is two 32-bit words, the lower first (R13). -/
theorem leWord_64 (bytes : List Byte) : leWord 64 bytes = leWord 32 (bytes.drop 4) ++ leWord 32 bytes :=
  leWord_add 32 4 bytes

/-- Sub-word j starts at byte W/8 · j (R111). -/
theorem subWord_eq (k : Nat) (blk : List Byte) (j : Nat) :
    subWord (8 * k) blk j = leWord (8 * k) (blk.drop (k * j)) := by
  rw [subWord, Nat.mul_div_cancel_left k (by decide), leWord_take]

/-- A 32-bit sub-word by its bytes, zeros for the bytes that are not there (R111, R193). -/
theorem subWord_32 (blk : List Byte) (j : Nat) :
    subWord 32 blk j =
      blk.getD (4 * j + 3) 0 ++ blk.getD (4 * j + 2) 0 ++ blk.getD (4 * j + 1) 0 ++ blk.getD (4 * j) 0 := by
  rw [show subWord 32 blk j = leWord 32 (blk.drop (4 * j)) from subWord_eq 4 blk j, leWord_32]
  simp only [List.getD_eq_getElem?_getD, List.getElem?_drop, Nat.add_zero]

/-- A 64-bit sub-word is two 32-bit ones (R111). -/
theorem subWord_64 (blk : List Byte) (j : Nat) :
    subWord 64 blk j = subWord 32 blk (2 * j + 1) ++ subWord 32 blk (2 * j) := by
  rw [show subWord 64 blk j = leWord 64 (blk.drop (8 * j)) from subWord_eq 8 blk j, leWord_64,
    show subWord 32 blk (2 * j + 1) = leWord 32 (blk.drop (4 * (2 * j + 1))) from subWord_eq 4 blk _,
    show subWord 32 blk (2 * j) = leWord 32 (blk.drop (4 * (2 * j))) from subWord_eq 4 blk _, List.drop_drop,
    show 8 * j + 4 = 4 * (2 * j + 1) by omega, show 8 * j = 4 * (2 * j) by omega]

end Sys2Proof.Machine
end

section
/-! SUPPORT. The mixing functions (`40_block_mixer.md` R112-R120, `42_finalization.md` R190-R196): the model's rotation is the
library's, block mix and tail mix lane by lane, and the avalanche as arithmetic and as a bijection. -/

namespace Sys2Proof.Machine

variable {w l : Nat}

/-- The rotation of R12 is the library's. -/
theorem rotl_eq_rotateLeft (a : BitVec w) {r : Nat} (hr : r < w) : rotl a r = a.rotateLeft r := by
  rw [rotl, BitVec.rotateLeft_def, Nat.mod_eq_of_lt hr]

/-- The k-mix with the library's rotation (R112). -/
theorem kmix_eq (k ca : BitVec w) {r : Nat} (cb : BitVec w) (hr : r < w) :
    kmix k ca r cb = (k * ca).rotateLeft r * cb := by rw [kmix, rotl_eq_rotateLeft _ hr]

/-- Settles O22: the product, the rotation and the product of zero are zero. -/
theorem kmixOfZero : Obligations.KmixOfZero := by
  intro w ca cb r
  have hrotl : rotl (0 : BitVec w) r = 0 := by simp [rotl]
  rw [kmix, zero_mul, hrotl, zero_mul]

/-- One block of Hasher32 (R116). -/
theorem blockMix_lanesH32 (h0 : Word32) (blk : List Byte) :
    blockMix lanesH32 #v[h0] blk =
      #v[rotl (h0 ^^^ kmix (subWord 32 blk 0) 0xcc9e2d51 15 0x1b873593) 13 * 5 + 0xe6546b64] := rfl

/-- Settles O23: the sub-word is the four bytes, the rotations are the library's. -/
theorem blockMixH32 : Obligations.BlockMixH32 := by
  refine ⟨fun h0 b0 b1 b2 b3 => ?_, by decide, by decide⟩
  have hk : subWord 32 [b0, b1, b2, b3] 0 = b3 ++ b2 ++ b1 ++ b0 := subWord_32 _ 0
  rw [blockMix_lanesH32, hk, kmix_eq _ _ _ (by decide), rotl_eq_rotateLeft _ (by decide)]

/-- One block of Hasher128x86, the neighbour of the last lane being the new lane 0 (R118). -/
theorem blockMix_lanesX86 (h0 h1 h2 h3 : Word32) (blk : List Byte) :
    blockMix lanesX86 #v[h0, h1, h2, h3] blk =
      (let n0 := (rotl (h0 ^^^ kmix (subWord 32 blk 0) 0x239b961b 15 0xab0e9789) 19 + h1) * 5 + 0x561ccd1b
      #v[n0, (rotl (h1 ^^^ kmix (subWord 32 blk 1) 0xab0e9789 16 0x38b34ae5) 17 + h2) * 5 + 0x0bcaa747,
        (rotl (h2 ^^^ kmix (subWord 32 blk 2) 0x38b34ae5 17 0xa1e38b93) 15 + h3) * 5 + 0x96cd1c35,
        (rotl (h3 ^^^ kmix (subWord 32 blk 3) 0xa1e38b93 18 0x239b961b) 13 + n0) * 5 + 0x32ac3b17]) := rfl

/-- Settles O24: each sub-word is its four bytes, the rotations are the library's. -/
theorem blockMixX86 : Obligations.BlockMixX86 := by
  refine ⟨fun h0 h1 h2 h3 b0 b1 b2 b3 b4 b5 b6 b7 b8 b9 b10 b11 b12 b13 b14 b15 => ?_, by decide⟩
  have hk := subWord_32 [b0, b1, b2, b3, b4, b5, b6, b7, b8, b9, b10, b11, b12, b13, b14, b15]
  rw [blockMix_lanesX86, hk 0, hk 1, hk 2, hk 3]
  simp only [kmix_eq _ _ _ (by decide : 15 < 32), kmix_eq _ _ _ (by decide : 16 < 32),
    kmix_eq _ _ _ (by decide : 17 < 32), kmix_eq _ _ _ (by decide : 18 < 32), rotl_eq_rotateLeft _ (by decide : 13 < 32),
    rotl_eq_rotateLeft _ (by decide : 15 < 32), rotl_eq_rotateLeft _ (by decide : 17 < 32),
    rotl_eq_rotateLeft _ (by decide : 19 < 32)]
  rfl

/-- One block of Hasher128x64, the neighbour of the last lane being the new lane 0 (R120). -/
theorem blockMix_lanesX64 (h0 h1 : Word64) (blk : List Byte) :
    blockMix lanesX64 #v[h0, h1] blk =
      (let n0 := (rotl (h0 ^^^ kmix (subWord 64 blk 0) 0x87c37b91114253d5 31 0x4cf5ad432745937f) 27 + h1) * 5 + 0x52dce729
      #v[n0, (rotl (h1 ^^^ kmix (subWord 64 blk 1) 0x4cf5ad432745937f 33 0x87c37b91114253d5) 31 + n0) * 5
        + 0x38495ab5]) := rfl

/-- Eight bytes as two 32-bit words are the eight bytes as one (R13). -/
theorem append_four_four (b0 b1 b2 b3 b4 b5 b6 b7 : Byte) :
    ((b7 ++ b6 ++ b5 ++ b4 : BitVec 32) ++ (b3 ++ b2 ++ b1 ++ b0 : BitVec 32) : BitVec 64) =
      (b7 ++ b6 ++ b5 ++ b4 ++ b3 ++ b2 ++ b1 ++ b0 : BitVec 64) := by
  simp only [BitVec.append_assoc, BitVec.cast_eq]

/-- Settles O25: each sub-word is its eight bytes, the rotations are the library's. -/
theorem blockMixX64 : Obligations.BlockMixX64 := by
  refine ⟨fun h0 h1 b0 b1 b2 b3 b4 b5 b6 b7 b8 b9 b10 b11 b12 b13 b14 b15 => ?_, by decide⟩
  have hk (j : Nat) := (subWord_64 [b0, b1, b2, b3, b4, b5, b6, b7, b8, b9, b10, b11, b12, b13, b14, b15] j).trans
    (congrArg₂ (· ++ ·) (subWord_32 _ _) (subWord_32 _ _))
  have hk0 := (hk 0).trans (append_four_four b0 b1 b2 b3 b4 b5 b6 b7)
  have hk1 := (hk 1).trans (append_four_four b8 b9 b10 b11 b12 b13 b14 b15)
  rw [blockMix_lanesX64, hk0, hk1]
  simp only [kmix_eq _ _ _ (by decide : 31 < 64), kmix_eq _ _ _ (by decide : 33 < 64),
    rotl_eq_rotateLeft _ (by decide : 27 < 64), rotl_eq_rotateLeft _ (by decide : 31 < 64)]

/-- Zeros after the bytes are what is read where there is no byte. -/
theorem getD_append_zeros (bytes : List Byte) (n i : Nat) :
    (bytes ++ List.replicate n 0).getD i 0 = bytes.getD i 0 := by
  by_cases h : i < bytes.length
  · exact List.getD_append _ _ _ _ h
  · rw [List.getD_append_right _ _ _ _ (by omega), List.getD_eq_default _ _ (by omega : bytes.length ≤ i)]
    simp only [List.getD_eq_getElem?_getD, List.getElem?_replicate]
    split <;> rfl

/-- The padding of a tail changes no sub-word (R193). -/
theorem subWord_append_zeros (w : Nat) (tail : List Byte) (n j : Nat) :
    subWord w (tail ++ List.replicate n 0) j = subWord w tail j := by
  apply leWord_congr
  intro i
  have hpad := getD_append_zeros tail n (w / 8 * j + i)
  simp only [List.getD_eq_getElem?_getD, List.getElem?_take, List.getElem?_drop] at hpad ⊢
  split
  · exact hpad
  · rfl

/-- A sub-word with no tail byte is zero. -/
theorem subWord_of_length_le {blk : List Byte} {j : Nat} (h : blk.length ≤ w / 8 * j) : subWord w blk j = 0 := by
  rw [subWord, List.drop_eq_nil_of_le h, List.take_nil, leWord_nil]

/-- Every sub-word of the tail may be mixed, with a byte or without, for the k-mix of zero is zero (R113, R193). -/
theorem tailMix_eq (ps : List (LaneParams w l)) (bs : Nat) (h : Vector (BitVec w) l) (tail : List Byte) :
    tailMix ps bs h tail =
      ps.foldl (fun h p => h.set p.lane (h[p.lane] ^^^ kmix (subWord w tail p.lane) p.ca p.r1 p.cb)) h := by
  dsimp only [tailMix]
  congr 1
  funext h p
  rw [subWord_append_zeros]
  by_cases hbyte : w / 8 * p.lane < tail.length
  · rw [if_pos hbyte]
  · rw [if_neg hbyte, subWord_of_length_le (by omega), kmixOfZero]
    simp

/-- The tail mix of Hasher32 (R194). -/
theorem tailMix_lanesH32 (h0 : Word32) (tail : List Byte) :
    tailMix lanesH32 4 #v[h0] tail = #v[h0 ^^^ kmix (subWord 32 tail 0) 0xcc9e2d51 15 0x1b873593] :=
  tailMix_eq lanesH32 4 #v[h0] tail

/-- The tail mix of Hasher128x86 (R195). -/
theorem tailMix_lanesX86 (h0 h1 h2 h3 : Word32) (tail : List Byte) :
    tailMix lanesX86 16 #v[h0, h1, h2, h3] tail =
      #v[h0 ^^^ kmix (subWord 32 tail 0) 0x239b961b 15 0xab0e9789,
        h1 ^^^ kmix (subWord 32 tail 1) 0xab0e9789 16 0x38b34ae5,
        h2 ^^^ kmix (subWord 32 tail 2) 0x38b34ae5 17 0xa1e38b93,
        h3 ^^^ kmix (subWord 32 tail 3) 0xa1e38b93 18 0x239b961b] :=
  tailMix_eq lanesX86 16 #v[h0, h1, h2, h3] tail

/-- The tail mix of Hasher128x64 (R196). -/
theorem tailMix_lanesX64 (h0 h1 : Word64) (tail : List Byte) :
    tailMix lanesX64 16 #v[h0, h1] tail =
      #v[h0 ^^^ kmix (subWord 64 tail 0) 0x87c37b91114253d5 31 0x4cf5ad432745937f,
        h1 ^^^ kmix (subWord 64 tail 1) 0x4cf5ad432745937f 33 0x87c37b91114253d5] :=
  tailMix_eq lanesX64 16 #v[h0, h1] tail

/-- Settles O26: lane by lane, each sub-word its bytes and zeros. -/
theorem tailMixPadsWithZeros : Obligations.TailMixPadsWithZeros := by
  intro tail word32 word64
  have hk32 (j : Nat) : subWord 32 tail j = word32 j := subWord_32 tail j
  have hk64 (j : Nat) : subWord 64 tail j = word64 j := by rw [subWord_64, hk32, hk32]
  refine ⟨fun _ h0 => ?_, fun _ h0 h1 h2 h3 => ?_, fun _ h0 h1 => ?_⟩
  · rw [tailMix_lanesH32, hk32, kmix_eq _ _ _ (by decide : 15 < 32)]
  · rw [tailMix_lanesX86, hk32, hk32, hk32, hk32, kmix_eq _ _ _ (by decide : 15 < 32),
      kmix_eq _ _ _ (by decide : 16 < 32), kmix_eq _ _ _ (by decide : 17 < 32), kmix_eq _ _ _ (by decide : 18 < 32)]
  · rw [tailMix_lanesX64, hk64, hk64, kmix_eq _ _ _ (by decide : 31 < 64), kmix_eq _ _ _ (by decide : 33 < 64)]

/-- An exclusive-or with the right shift, on numbers (R190, R191). -/
theorem toNat_xorShift (x : BitVec w) (r : Nat) : (x ^^^ (x >>> r)).toNat = x.toNat ^^^ (x.toNat / 2 ^ r) := by
  rw [BitVec.toNat_xor, BitVec.toNat_ushiftRight, Nat.shiftRight_eq_div_pow]

/-- Settles O27: each operation on words is its operation on numbers. -/
theorem fmixOnNumbers : Obligations.FmixOnNumbers := by
  refine ⟨fun h => ?_, fun k => ?_⟩
  · have hfirst (x : Word32) : (x * 0x85ebca6b).toNat = x.toNat * 0x85ebca6b % 2 ^ 32 := BitVec.toNat_mul x _
    have hsecond (x : Word32) : (x * 0xc2b2ae35).toNat = x.toNat * 0xc2b2ae35 % 2 ^ 32 := BitVec.toNat_mul x _
    rw [fmix32, toNat_xorShift, hsecond, toNat_xorShift, hfirst, toNat_xorShift]
  · have hfirst (x : Word64) : (x * 0xff51afd7ed558ccd).toNat = x.toNat * 0xff51afd7ed558ccd % 2 ^ 64 :=
      BitVec.toNat_mul x _
    have hsecond (x : Word64) : (x * 0xc4ceb9fe1a85ec53).toNat = x.toNat * 0xc4ceb9fe1a85ec53 % 2 ^ 64 :=
      BitVec.toNat_mul x _
    rw [fmix64, toNat_xorShift, hsecond, toNat_xorShift, hfirst, toNat_xorShift]

/-- A word that equals its own right shift is zero. -/
theorem eq_zero_of_eq_ushiftRight {z : BitVec w} {r : Nat} (hr : 0 < r) (h : z = z >>> r) : z = 0 := by
  have hdiv : z.toNat = z.toNat / 2 ^ r := by
    simpa [Nat.shiftRight_eq_div_pow] using congrArg BitVec.toNat h
  by_contra hne
  have hpos : 0 < z.toNat := Nat.pos_of_ne_zero fun h0 => hne (BitVec.eq_of_toNat_eq h0)
  exact (Nat.div_lt_self hpos (Nat.one_lt_two_pow hr.ne')).ne' hdiv

/-- An exclusive-or with the right shift is injective: the difference of two words with one image is its own shift. -/
theorem xorShift_injective {r : Nat} (hr : 0 < r) : Function.Injective fun x : BitVec w => x ^^^ (x >>> r) := by
  intro x y h
  have swap (a b c d : Bool) : (a ^^ c) = (b ^^ d) → (a ^^ b) = (c ^^ d) := by decide +revert
  have hz : x ^^^ y = (x ^^^ y) >>> r := by
    rw [BitVec.ushiftRight_xor_distrib]
    apply BitVec.eq_of_getLsbD_eq
    intro i _
    have hi := congrArg (BitVec.getLsbD · i) h
    simp only [BitVec.getLsbD_xor] at hi ⊢
    exact swap _ _ _ _ hi
  exact BitVec.xor_eq_zero_iff.mp (eq_zero_of_eq_ushiftRight hr hz)

/-- A product with a word that has an inverse is injective. -/
theorem mul_injective_of_inverse {c c' : BitVec w} (hc : c * c' = 1) : Function.Injective fun x : BitVec w => x * c := by
  intro x y h
  calc x
    _ = x * c * c' := by rw [mul_assoc, hc, mul_one]
    _ = y * c * c' := congrArg (· * c') h
    _ = y := by rw [mul_assoc, hc, mul_one]

/-- fmix32 is three exclusive-ors with a shift and two products between them (R190). -/
theorem fmix32_injective : Function.Injective fmix32 :=
  (xorShift_injective (r := 16) (by decide)).comp <|
    (mul_injective_of_inverse (c' := 0x7ed1b41d) (by decide)).comp <|
    (xorShift_injective (r := 13) (by decide)).comp <|
    (mul_injective_of_inverse (c' := 0xa5cb9243) (by decide)).comp <|
    xorShift_injective (r := 16) (by decide)

/-- fmix64 is three exclusive-ors with a shift and two products between them (R191). -/
theorem fmix64_injective : Function.Injective fmix64 :=
  (xorShift_injective (r := 33) (by decide)).comp <|
    (mul_injective_of_inverse (c' := 0x9cb4b2f8129337db) (by decide)).comp <|
    (xorShift_injective (r := 33) (by decide)).comp <|
    (mul_injective_of_inverse (c' := 0x4f74430c22a54005) (by decide)).comp <|
    xorShift_injective (r := 33) (by decide)

/-- Settles O28: an injective function on a finite width is a bijection. -/
theorem fmixBijective : Obligations.FmixBijective :=
  ⟨by decide, by decide, Finite.injective_iff_bijective.mp fmix32_injective,
    Finite.injective_iff_bijective.mp fmix64_injective⟩

end Sys2Proof.Machine
end

section
/-! SUPPORT. FINISH (`42_finalization.md` R197-R203, `20_memory.md` R64): the digest bytes on RDATA are the lanes side by side,
H[0] lowest, and each lane is what the steps of the finalization make of it. -/

namespace Sys2Proof.Machine

open Sys2Proof.Safety

/-- The digest of one 32-bit lane (R64, R201). -/
theorem packBytes_digestBytes_h32 : ∀ h : Vector Word32 1, packBytes (digestBytes h) = (0 : BitVec 96) ++ h[0]
  | ⟨⟨[a]⟩, _⟩ => leWord_bytesLE_append 96 (k := 4) a []

/-- The digest of four 32-bit lanes (R64, R202). -/
theorem packBytes_digestBytes_x86 :
    ∀ h : Vector Word32 4, packBytes (digestBytes h) = h[3] ++ h[2] ++ h[1] ++ h[0]
  | ⟨⟨[a, b, c, d]⟩, _⟩ => by
    have ha := leWord_bytesLE_append 96 (k := 4) a (bytesLE b ++ (bytesLE c ++ bytesLE d))
    have hb := leWord_bytesLE_append 64 (k := 4) b (bytesLE c ++ bytesLE d)
    have hc := leWord_bytesLE_append 32 (k := 4) c (bytesLE d)
    have hd := leWord_bytesLE (k := 4) d
    exact ha.trans (congrArg (· ++ a) (hb.trans (congrArg (· ++ b) (hc.trans (congrArg (· ++ c) hd)))))

/-- The digest of two 64-bit lanes (R64, R203). -/
theorem packBytes_digestBytes_x64 : ∀ h : Vector Word64 2, packBytes (digestBytes h) = h[1] ++ h[0]
  | ⟨⟨[a, b]⟩, _⟩ => by
    have ha := leWord_bytesLE_append 64 (k := 8) a (bytesLE b)
    have hb := leWord_bytesLE (k := 8) b
    exact ha.trans (congrArg (· ++ a) hb)

/-- LEN modulo 2^32 is LEN[31:0] (R197). -/
theorem foldLength_getElem_32 {l : Nat} (len : BitVec 64) (h : Vector Word32 l) (j : Nat) (hj : j < l) :
    (foldLength len h)[j] = h[j] ^^^ len.extractLsb' 0 32 := by
  simp [foldLength, BitVec.setWidth_eq_extractLsb']

/-- A 64-bit lane is folded with all of LEN (R197). -/
theorem foldLength_getElem_64 {l : Nat} (len : BitVec 64) (h : Vector Word64 l) (j : Nat) (hj : j < l) :
    (foldLength len h)[j] = h[j] ^^^ len := by simp [foldLength]

/-- Each lane has its own avalanche. -/
theorem avalanche_getElem {w l : Nat} (fmix : BitVec w → BitVec w) (h : Vector (BitVec w) l) (j : Nat) (hj : j < l) :
    (avalanche fmix h)[j] = fmix h[j] := by simp [avalanche]

section CrossFold

variable (h : Vector Word32 4) (k : Vector Word64 2)

/-- Lane 0 of the cross-fold is the sum of the lanes (R199). -/
theorem crossFoldX86_first : (crossFoldX86 h)[0] = h[0] + h[1] + h[2] + h[3] := rfl

/-- Lane 1 adds the new lane 0, as lanes 2 and 3 do (R199). -/
theorem crossFoldX86_second : (crossFoldX86 h)[1] = h[1] + (crossFoldX86 h)[0] := rfl
/-- Lane 2. -/
theorem crossFoldX86_third : (crossFoldX86 h)[2] = h[2] + (crossFoldX86 h)[0] := rfl
/-- Lane 3. -/
theorem crossFoldX86_fourth : (crossFoldX86 h)[3] = h[3] + (crossFoldX86 h)[0] := rfl

/-- Lane 0 of the cross-fold is the sum of the lanes (R200). -/
theorem crossFoldX64_first : (crossFoldX64 k)[0] = k[0] + k[1] := rfl

/-- The other lane adds the new lane 0 (R200). -/
theorem crossFoldX64_second : (crossFoldX64 k)[1] = k[1] + (crossFoldX64 k)[0] := rfl

end CrossFold

/-- Settles O30: one lane, with no cross-fold. -/
theorem finishH32Digest : Obligations.FinishH32Digest := by
  intro s ha m
  have hdigest : packBytes (finalH32 s.h32.h s.h32.tail s.h32.len) =
      (0 : BitVec 96) ++ fmix32 (m[0] ^^^ s.h32.len.extractLsb' 0 32) := by
    rw [finalH32, packBytes_digestBytes_h32, avalanche_getElem, foldLength_getElem_32]
  rw [← hdigest]
  exact rowH32.exec_finish_of_active ha

/-- Settles O31: the four lanes through both cross-folds. -/
theorem finishX86Digest : Obligations.FinishX86Digest := by
  intro s ha m n a0 f0 f1 f2 f3 d0
  have hdigest : packBytes (finalX86 s.x86.h s.x86.tail s.x86.len) = (f3 + d0) ++ (f2 + d0) ++ (f1 + d0) ++ d0 := by
    rw [finalX86, packBytes_digestBytes_x86]
    simp only [crossFoldX86_first, crossFoldX86_second, crossFoldX86_third, crossFoldX86_fourth,
      avalanche_getElem, foldLength_getElem_32]
    rfl
  rw [← hdigest]
  exact rowX86.exec_finish_of_active ha

/-- Settles O32: both lanes through both cross-folds. -/
theorem finishX64Digest : Obligations.FinishX64Digest := by
  intro s ha m a0 f0 f1 d0
  have hdigest : packBytes (finalX64 s.x64.h s.x64.tail s.x64.len) = (f1 + d0) ++ d0 := by
    rw [finalX64, packBytes_digestBytes_x64]
    simp only [crossFoldX64_first, crossFoldX64_second, avalanche_getElem, foldLength_getElem_64]
    rfl
  rw [← hdigest]
  exact rowX64.exec_finish_of_active ha

end Sys2Proof.Machine
end

section
/-! SUPPORT. The assembler (`30_encoding.md` R95, `43_one_shot.md` R230, R231): the pieces of an absorb, the seeds of an INIT,
and the commands of each line. -/

namespace Sys2Proof.Machine

open Sys2Proof.Safety

/-- As many pieces as are asked for (R230). -/
theorem pieces_length (n : Nat) (bytes : List Byte) : (pieces n bytes).length = n := by
  induction n generalizing bytes with
  | zero => rfl
  | succ n ih => rw [pieces, List.length_cons, ih]

/-- Enough pieces hold all the bytes, in order (R230). -/
theorem pieces_flatten (n : Nat) {bytes : List Byte} (h : bytes.length ≤ 16 * n) : (pieces n bytes).flatten = bytes := by
  induction n generalizing bytes with
  | zero => exact (List.eq_nil_of_length_eq_zero (by omega)).symm
  | succ n ih =>
    have hrest : (bytes.drop Config.maxChunk).length ≤ 16 * n := by
      rw [List.length_drop, Config.maxChunk]
      omega
    rw [pieces, List.flatten_cons, ih hrest, List.take_append_drop]

/-- Piece i starts at byte 16 · i (R230). -/
theorem pieces_getElem {n i : Nat} {bytes : List Byte} (h : i < (pieces n bytes).length) :
    (pieces n bytes)[i] = (bytes.drop (16 * i)).take 16 := by
  induction n generalizing bytes i with
  | zero => exact absurd h (Nat.not_lt_zero i)
  | succ n ih =>
    cases i with
    | zero => rfl
    | succ i =>
      have hstart : 16 + 16 * i = 16 * (i + 1) := by omega
      simp only [pieces, List.getElem_cons_succ, ih, List.drop_drop, Config.maxChunk, hstart]

/-- No piece is longer than a WRITE can carry (R86, R230). -/
theorem length_le_of_mem_pieces {n : Nat} {bytes piece : List Byte} (h : piece ∈ pieces n bytes) : piece.length ≤ 16 := by
  obtain ⟨i, hi, rfl⟩ := List.getElem_of_mem h
  rw [pieces_getElem hi]
  exact List.length_take_le 16 _

/-- WRITE is out of sequence by the engine's STATE, whatever its chunk (R243). -/
theorem outOfSequence_asmWrite (v : Variant) (chunk chunk' : List Byte) (s : State) :
    OutOfSequence s (asmWrite v chunk) → OutOfSequence (answered s .seqErr 0) (asmWrite v chunk') := by
  cases v <;> exact id

/-- A command answered SEQERR was out of sequence (R243). -/
theorem outOfSequence_of_seqErr {i : Instr} {s t : State} {data : Data} (hexec : exec i s = .next t)
    (hrsp : t.rsp = some ⟨.seqErr, data⟩) : OutOfSequence s i := by
  by_contra hin
  obtain ⟨rd, hok⟩ := exec_rsp_ok hin hexec
  cases hok.symm.trans hrsp

/-- Settles O48: the pieces cover the bytes, and a refused WRITE leaves STATE as it was. -/
theorem absorbExpansion : Obligations.AbsorbExpansion := by
  refine ⟨fun v bytes => ⟨_, rfl, pieces_length _ bytes, pieces_flatten _ ?_, fun i h => pieces_getElem h⟩,
    fun v chunk chunk' s t u data ht htrsp hu => ?_⟩
  · rw [Config.maxChunk]
    omega
  · have hout := outOfSequence_of_seqErr ht htrsp
    cases (exec_of_outOfSequence hout).symm.trans ht
    cases (exec_of_outOfSequence (outOfSequence_asmWrite v chunk chunk' s hout)).symm.trans hu
    rfl

/-- The seeds a variant's INIT can carry (R88, R95). -/
def seedBound : Variant → Nat
  | .h32 | .x86 => 2 ^ 32
  | .x64 => 2 ^ 64

/-- INIT is an error exactly for a seed too wide (R95). -/
theorem asmInit_eq_none_iff (v : Variant) (seed : Nat) : asmInit v seed = none ↔ seedBound v ≤ seed := by
  cases v <;> simp [asmInit, seedBound]

/-- INIT is well formed. -/
theorem wellFormed_of_asmInit {v : Variant} {seed : Nat} {i : Instr} (h : asmInit v seed = some i) :
    i.wellFormed = true := by
  cases v
  all_goals
    obtain ⟨-, h⟩ := Option.ite_none_right_eq_some.mp h
    cases h
    rfl

/-- WRITE is well formed with at most 16 bytes (R86). -/
theorem wellFormed_asmWrite (v : Variant) {chunk : List Byte} (h : chunk.length ≤ 16) :
    (asmWrite v chunk).wellFormed = true := by
  cases v <;> exact decide_eq_true h

/-- FINISH is well formed. -/
theorem wellFormed_asmFinish (v : Variant) : (asmFinish v).wellFormed = true := by cases v <;> rfl

/-- STATUS is well formed. -/
theorem wellFormed_asmStatus (v : Variant) : (asmStatus v).wellFormed = true := by cases v <;> rfl

/-- The WRITEs of an absorb are well formed (R230). -/
theorem wellFormed_of_mem_asmAbsorb {v : Variant} {bytes : List Byte} {i : Instr} (h : i ∈ asmAbsorb v bytes) :
    i.wellFormed = true := by
  obtain ⟨piece, hpiece, rfl⟩ := List.mem_map.mp h
  exact wellFormed_asmWrite v (length_le_of_mem_pieces hpiece)

/-- Every command a line assembles to is well formed (R95, R230, R231). -/
theorem wellFormed_of_assemble {line : AsmLine} {commands : List Instr} (h : assemble line = some commands) :
    ∀ i ∈ commands, i.wellFormed = true := by
  cases line with
  | nop => cases h; simp [Instr.wellFormed]
  | finish v => cases h; simp [wellFormed_asmFinish]
  | status v => cases h; simp [wellFormed_asmStatus]
  | absorb v bytes => cases h; exact fun i => wellFormed_of_mem_asmAbsorb
  | init v seed =>
    obtain ⟨i, hi, rfl⟩ := Option.map_eq_some_iff.mp h
    simp [wellFormed_of_asmInit hi]
  | write v nb bytes =>
    simp only [assemble, Option.ite_none_right_eq_some] at h
    obtain ⟨⟨hnb, rfl⟩, h⟩ := h
    cases h
    simp [wellFormed_asmWrite v hnb]
  | hash v seed bytes =>
    obtain ⟨i, hi, rfl⟩ := Option.map_eq_some_iff.mp h
    simp only [List.forall_mem_cons, List.forall_mem_append, List.not_mem_nil, false_imp_iff, implies_true, and_true]
    exact ⟨wellFormed_of_asmInit hi, fun j => wellFormed_of_mem_asmAbsorb, wellFormed_asmFinish v⟩

/-- Settles O49: the errors of INIT and WRITE, the commands of every line, and the line `hash` by its parts. -/
theorem assemblerErrorsExact : Obligations.AssemblerErrorsExact := by
  have hinit (v : Variant) (seed : Nat) : assemble (.init v seed) = none ↔ seedBound v ≤ seed := by
    rw [assemble, Option.map_eq_none_iff, asmInit_eq_none_iff]
  refine ⟨fun seed => ⟨hinit .h32 seed, hinit .x86 seed, hinit .x64 seed⟩, fun v nb bytes => ?_,
    fun line commands h => wellFormed_of_assemble h, fun v seed bytes init absorb finish hi ha hf => ?_⟩
  · rw [assemble, ite_eq_right_iff, Config.maxChunk]
    simp only [reduceCtorEq, imp_false]
    omega
  · obtain ⟨i, hseed, rfl⟩ := Option.map_eq_some_iff.mp hi
    cases ha
    cases hf
    simp [assemble, hseed]

end Sys2Proof.Machine
end
